-- ==== Sys2Proof/Word.lean ====
section
/-! DEFINITION. The words of the part: a byte of a Client Port and the four lane levels of one clock edge. -/

namespace Sys2Proof

/-- A byte exchanged on a Client Port (R167). -/
abbrev Byte := BitVec 8

/-- The levels of data lanes 3, 2, 1 and 0 at one rising edge, lane 3 the most significant (R168). -/
abbrev Nibble := BitVec 4

end Sys2Proof
end

