-- ==== Sys2Proof/Config.lean ====
section
/-! DEFINITION. What the manual leaves to the part: one free value (assumption log, entry 13). -/

namespace Sys2Proof

/-- The value that reaches the host for a data byte of which `sent` clock edges were out when its
transfer was overtaken. R109 and R138 give the bytes before and the bytes after that moment, and say
nothing of a byte in the middle: a free value, `old` being the byte that was being shifted. -/
opaque Config.tornByte (old : Byte) (sent : Nat) : Byte

end Sys2Proof
end

