-- ==== Sys2Proof/Syntax.lean ====
section
/-! DEFINITION. The commands: one constructor for each row of spec/opcode_table.json, with the
operands that reach the part in that step (assumption log, entry 5). -/

namespace Sys2Proof

/-- A Client Port (section 9.1). -/
inductive Port where
  | a
  | b
  deriving DecidableEq, Repr

/-- A Bench Line (section 5.7). -/
inductive Line where
  | onRec
  | offRec
  | privacy
  | mark
  | key
  deriving DecidableEq, Repr

/-- The levels of the five Bench Lines in one Sample Period, true when asserted (R95). -/
structure BenchLevels where
  onRec : Bool
  offRec : Bool
  privacy : Bool
  mark : Bool
  key : Bool
  deriving DecidableEq, Repr

/-- What one Microphone Link brings in one Sample Period: no frame start, or a frame start and the
bits received from it on, first received first (R1, R197). -/
inductive LinkInput where
  | absent
  | started (bits : List Bool)
  deriving DecidableEq, Repr

/-- The lane width of a port (R168). -/
inductive LaneWidth where
  | one
  | four
  deriving DecidableEq, Repr

/-- The read latency of a port in dummy bytes (R134, R174). -/
inductive ReadLatency where
  | four
  | eight
  deriving DecidableEq, Repr

/-- The two settings that a port takes at the chip-select fall of a Frame (R168, R174). -/
structure PortTiming where
  lanes : LaneWidth
  latency : ReadLatency
  deriving DecidableEq, Repr

/-- How the RESET line meets a Frame (R175, R180; assumption log, entry 22): it keeps its level from the
chip-select fall to the rise, or it is asserted after so many of the Frame's rising edges, those of the command
byte counted, or chip-select fell while it was asserted and it is released before the rise. -/
inductive AtReset where
  | steady
  | asserted (edges : Nat)
  | released
  deriving DecidableEq, Repr

/-- A Frame after its command byte. `lanes` are the host's levels at the rising edges that follow the
command byte, `tail` counts further edges with all lanes low, and `atFall` is what the port took at
the chip-select fall where the other port has rewritten it since (none: it stands as at the taking;
assumption log, entry 11). A Frame whose `reset` is not `steady` is abandoned (R175). -/
structure Frame where
  lanes : List Nibble
  tail : Nat
  atFall : Option PortTiming
  reset : AtReset
  deriving DecidableEq, Repr

/-- A Frame of which nothing but the number of its rising edges counts, and how RESET meets it: one that ends
within its command byte, or that fell during the load (R171, R175). -/
structure BareFrame where
  edges : Nat
  reset : AtReset
  deriving DecidableEq, Repr

/-- A part of the Image (R192). -/
inductive ImageHalf where
  | general
  | guarded
  deriving DecidableEq, Repr

/-- The commands of the part. -/
inductive Instr where
  -- power and reset
  | powerOn
  | settingsLoadComplete
  | powerLoss (writing : ImageHalf)
  | resetAssert
  | resetRelease
  -- time, links, clock and Bench Lines
  | samplePeriod (houseEdge : Bool) (levels : BenchLevels)
  | linkFrame (link : Fin 8) (input : LinkInput)
  | linkLock (link : Fin 8) (input : LinkInput)
  | linkSeekTimeout (link : Fin 8) (input : LinkInput)
  | linkRelock (link : Fin 8) (input : LinkInput)
  | linkDown (link : Fin 8) (input : LinkInput)
  | houseClockLoss
  | houseClockReturn
  | benchLineAccept (line : Line)
  -- the Block Boundary and what catches up
  | blockBoundary (floorAfter : Nat)
  | storeGapBlock
  | pendingTargetTake
  | sessionClose
  | sessionLengthLimit
  | planActivate
  | pendingGainApply (order : List (Fin 32))
  | pendingSettingApply
  | clockSourceApply
  | marksLostStore
  | storeCompletion
  -- Frames that hold no command
  | zeroByteFrame (port : Port)
  | frameDuringLoad (port : Port) (frame : BareFrame)
  | shortFrame (port : Port) (frame : BareFrame)
  | unknownCommand (port : Port) (code : Byte) (frame : Frame)
  -- the commands of Table 9.2
  | status (port : Port) (frame : Frame)
  | readEvents (port : Port) (frame : Frame)
  | ackEvents (port : Port) (frame : Frame)
  | setMask (port : Port) (frame : Frame)
  | portReset (port : Port) (frame : Frame)
  | attach (port : Port) (frame : Frame)
  | detach (port : Port) (frame : Frame)
  | readBlock (port : Port) (frame : Frame)
  | readBlockEnd (port : Port) (edges : Nat)
  | release (port : Port) (frame : Frame)
  | seek (port : Port) (frame : Frame)
  | setAvailLevel (port : Port) (frame : Frame)
  | setLagLevel (port : Port) (frame : Frame)
  | placeHold (port : Port) (frame : Frame)
  | dropHold (port : Port) (frame : Frame)
  | readHolds (port : Port) (frame : Frame)
  | readMarks (port : Port) (frame : Frame)
  | readMarksEnd (port : Port) (edges : Nat)
  | addNote (port : Port) (frame : Frame)
  | openSession (port : Port) (frame : Frame)
  | closeSession (port : Port) (frame : Frame)
  | setState (port : Port) (frame : Frame)
  | planClear (port : Port) (frame : Frame)
  | planSetGroup (port : Port) (frame : Frame)
  | planSetFormat (port : Port) (frame : Frame)
  | readPlan (port : Port) (frame : Frame)
  | activatePlan (port : Port) (frame : Frame)
  | setGain (port : Port) (frame : Frame)
  | readTracks (port : Port) (frame : Frame)
  | readLinks (port : Port) (frame : Frame)
  | readSetting (port : Port) (frame : Frame)
  | writeSetting (port : Port) (frame : Frame)
  | enableStore (port : Port) (frame : Frame)
  | disableStore (port : Port) (frame : Frame)
  | storeSettings (port : Port) (frame : Frame)
  deriving DecidableEq, Repr

end Sys2Proof
end

