-- ==== Sys2Proof/Machine/Types.lean ====
section
/-! DEFINITION. The pieces of state of each block of the part (spec 00_scope.md, Table 0.1), as plain data. -/

namespace Sys2Proof.Machine

/-- One thing for each Client Port. -/
structure Both (α : Type) where
  a : α
  b : α
  deriving DecidableEq, Repr

/-! ### Links and the sample clock (chapter 1) -/

/-- How far a delivered sample can be trusted (spec 0.6, R11, R13). -/
inductive SourceState where
  | live
  | concealed
  | filled
  | pattern
  deriving DecidableEq, Repr

/-- A sample as a Link Receiver delivers it (R11). -/
structure ChannelSample where
  value : Int
  source : SourceState
  deriving DecidableEq, Repr

/-- Link states (section 1.3). -/
inductive LinkState where
  | down
  | seeking
  | locked
  | slipping
  deriving DecidableEq, Repr

/-- One Link Receiver (sections 1.2 to 1.4). -/
structure Link where
  state : LinkState
  /-- expected frame count (R3) -/
  expected : BitVec 4
  /-- consecutive-good count -/
  goodRun : Nat
  /-- without-good count -/
  withoutGood : Nat
  seekStay : Nat
  slipStay : Nat
  /-- bad-frame counter (R4) -/
  badFrames : Nat
  /-- hold values of the four Channels (R11) -/
  hold : Vector Int 4
  /-- the samples delivered in the present Sample Period (R11) -/
  out : Vector ChannelSample 4
  /-- the model's own: this Sample Period's frame has been judged (log entry 9) -/
  heard : Bool
  deriving DecidableEq, Repr

/-- A clock source (R20). -/
inductive ClockSource where
  | internal
  | house
  deriving DecidableEq, Repr

/-- States of the Sample Clock Unit (R18). -/
inductive ClockState where
  | internal
  | house
  | fallback
  deriving DecidableEq, Repr

/-- The Sample Clock Unit (R17, R18). -/
structure ClockUnit where
  state : ClockState
  housePresent : Nat
  edgeless : Nat
  /-- the model's own: whether the Sample Period in progress has a house clock edge, until the period is
  counted (log entry 6) -/
  edge : Option Bool
  deriving DecidableEq, Repr

/-! ### The Channel Plan (chapter 2) -/

/-- Sample width of a plan (R23). -/
inductive Width where
  | w16
  | w24
  deriving DecidableEq, Repr

/-- Combining mode of a Group (R23). `undefined` is a code that none of the four modes has: only a plan
read from the Image can hold one (R32). -/
inductive GroupMode where
  | direct
  | sum
  | half
  | third
  | undefined (code : BitVec 8)
  deriving DecidableEq, Repr

/-- An occupied group entry (R23). -/
structure Group where
  mode : GroupMode
  first : Nat
  count : Nat
  deriving DecidableEq, Repr

/-- A Channel Plan (R23). -/
structure Plan where
  width : Width
  total : Nat
  entries : Vector (Option Group) 16
  deriving DecidableEq, Repr

/-- The Plan Unit but for the Active Plan, which is a Working Setting (R27, R36, R38). -/
structure PlanUnit where
  pendingPlan : Plan
  armed : Option Plan
  editCount : BitVec 16
  lastEditor : Option Port
  generation : BitVec 16
  deriving DecidableEq, Repr

/-- One Track of a plan: its mode and the Channels it combines (R24, R25). -/
structure TrackSpec where
  mode : GroupMode
  channels : List Nat
  deriving DecidableEq, Repr

/-! ### Tracks and the Block in progress (chapters 3 and 6) -/

/-- Per-Block state of one Track (R42, Table 3.1), with the samples it has stored so far. -/
structure TrackWork where
  spec : TrackSpec
  accSum : Int
  accState : Option SourceState
  peak : Nat
  clips : Nat
  worst : Option SourceState
  samples : List Int
  deriving DecidableEq, Repr

/-- The Block in progress (R101, Table 6.1). -/
structure BlockInProgress where
  session : Nat
  time : Nat
  generation : BitVec 16
  plan : Plan
  tracks : List TrackWork
  deriving DecidableEq, Repr

/-- Activity States (R63). -/
inductive ActivityState where
  | quiet
  | rising
  | active
  | hanging
  deriving DecidableEq, Repr

/-- A track entry of a Block header (R102, Table 12.4). -/
structure TrackEntry where
  source : SourceState
  activity : ActivityState
  clips : Nat
  peak : Nat
  deriving DecidableEq, Repr

/-- Classes of Blocks (R93); `opened` is the class OPEN. -/
inductive BlockClass where
  | opened
  | restricted
  | test
  deriving DecidableEq, Repr

/-- The last-block record (R51, R56). -/
structure LastBlock where
  period : Nat
  cls : BlockClass
  holder : Option (Fin 32)
  entries : List TrackEntry
  deriving DecidableEq, Repr

/-- The Track Processor's state that outlives a Block Period (R46, R47, R51, R57). -/
structure TrackProcessor where
  clips : Vector Nat 32
  restrictedClip : Bool
  clipReported : Bool
  last : Option LastBlock
  deriving DecidableEq, Repr

/-! ### Activity and the Floor (chapter 4) -/

/-- The Activity Monitor's state of one Track number (R63). -/
structure TrackActivity where
  state : ActivityState
  attack : Nat
  hang : Nat
  deriving DecidableEq, Repr

/-- The Floor Arbiter (R69). -/
structure Floor where
  holder : Option (Fin 32)
  challenger : Option (Fin 32)
  count : Nat
  deriving DecidableEq, Repr

/-! ### Proceedings (chapter 5) -/

/-- Proceedings States (R78). -/
inductive ProceedingsState where
  | closed
  | offRecord
  | onRecord
  | sidebar
  deriving DecidableEq, Repr

/-- Pending targets other than NONE (R84). -/
inductive Target where
  | onRecord
  | offRecord
  | sidebar
  | close
  deriving DecidableEq, Repr

/-- Who caused an occurrence (Table 8.1). -/
inductive Party where
  | portA
  | portB
  | bench
  | device
  deriving DecidableEq, Repr

/-- One Bench Line (R95). -/
structure BenchLine where
  /-- debounced level -/
  level : Bool
  /-- change count -/
  count : Nat
  firstEdge : Nat
  /-- the first edge fell in CLOSED or before the OPEN_SESSION (R95) -/
  early : Bool
  deriving DecidableEq, Repr

/-- The five Bench Lines. -/
structure BenchLines where
  onRec : BenchLine
  offRec : BenchLine
  privacy : BenchLine
  mark : BenchLine
  key : BenchLine
  deriving DecidableEq, Repr

/-- The Proceedings Controller (R78 to R84, R93, R95). -/
structure Proceedings where
  state : ProceedingsState
  target : Option (Target × Party)
  session : Nat
  verify : Bool
  clock : Nat
  /-- Block Period count -/
  periods : Nat
  /-- restricted-in-progress indication (R93) -/
  restricted : Bool
  /-- the Block Period in progress began in a Recording State (R93) -/
  recording : Bool
  /-- the Sample Period in progress is that of the taking of OPEN_SESSION (R79) -/
  opening : Bool
  lines : BenchLines
  deriving DecidableEq, Repr

/-- Where a Block Boundary stands (R64, R90, R152; log entry 7). `begun`: its 480th Sample Period has
ended and pending settings are applied. `turned`: the finished Block is dealt with; `next` is the state
after the boundary, and `floorMark` is a FLOOR Mark that still waits, with how many other Marks of the
boundary come before it, its argument and whether it asks for the RESTRICTED flag. -/
inductive BoundaryStage where
  | idle
  | begun
  | turned (next : ProceedingsState) (floorMark : Option (Nat × Option (Fin 32) × Bool))
  deriving DecidableEq, Repr

/-! ### The Take Ring (chapter 6) -/

/-- Kinds of stored Blocks (section 6.5). -/
inductive BlockKind where
  | audio
  | gap
  deriving DecidableEq, Repr

/-- A stored Block (R101, R102, R104, R115). The withheld field of a stored Block is always clear. -/
structure Block where
  kind : BlockKind
  cls : BlockClass
  width : Width
  trackCount : Nat
  sequence : Nat
  session : Nat
  generation : BitVec 16
  time : Nat
  covered : Nat
  bodyLength : Nat
  holder : Option (Fin 32)
  spanEnd : Nat
  entries : List TrackEntry
  /-- each Track's samples in time order -/
  body : List (List Int)
  deriving DecidableEq, Repr

/-- A Pending Gap of one period or more (R112). -/
structure PendingGap where
  count : Nat
  restricted : Bool
  firstTime : Nat
  firstGeneration : BitVec 16
  firstWidth : Width
  spanEnd : Nat
  deriving DecidableEq, Repr

/-- Retention Class (spec 0.6). -/
inductive Retention where
  | binding
  | yielding
  deriving DecidableEq, Repr

/-- A Hold (R117). -/
structure Hold where
  owner : Port
  cls : Retention
  first : Nat
  last : Nat
  deriving DecidableEq, Repr

/-- The Ring Controller (R103, R112, R117). `count` of the manual is the number of blocks. -/
structure Ring where
  /-- stored Blocks, Oldest first -/
  blocks : List Block
  /-- N -/
  next : Nat
  gap : Option PendingGap
  holds : Vector (Option Hold) 8
  lastPlaced : Both (Option (Fin 8))
  deriving DecidableEq, Repr

/-! ### The Mark List (chapter 8) -/

/-- Kinds of Mark (Table 8.2). -/
inductive MarkKind where
  | sessionOpen
  | sessionClose
  | state
  | bench
  | note
  | floor
  | level
  | link
  | clock
  | plan
  | marksLost
  deriving DecidableEq, Repr

/-- A stored Mark (R150). HAS_BLOCK and HAS_TAG are set when the field is present; a stored Mark never
carries WITHHELD. -/
structure Mark where
  serial : Nat
  kind : MarkKind
  origin : Party
  time : Nat
  block : Option Nat
  arg : BitVec 16
  tag : Option (BitVec 32)
  restricted : Bool
  clamped : Bool
  deriving DecidableEq, Repr

/-- A request to insert a Mark (R153); `askRestricted` is the requesting block's wish (R155). -/
structure MarkRequest where
  kind : MarkKind
  origin : Party
  time : Nat
  arg : BitVec 16
  tag : Option (BitVec 32)
  askRestricted : Bool
  clamped : Bool
  deriving DecidableEq, Repr

/-- The Mark List (R152). -/
structure MarkList where
  /-- stored Marks, oldest first -/
  marks : List Mark
  /-- next serial -/
  next : Nat
  lost : Nat
  firstLost : Option Nat
  deriving DecidableEq, Repr

/-! ### Readers (chapter 7) -/

/-- Reader states (R125). -/
inductive ReaderState where
  | detached
  | following
  | cut
  deriving DecidableEq, Repr

/-- Pair states (R125, Table 7.4). -/
inductive PairState where
  | complete
  | awaitingLag
  | awaitingAvail
  deriving DecidableEq, Repr

/-- The five Reader flags (R129). -/
structure ReaderFlags where
  avail : Bool
  empty : Bool
  half : Bool
  lagWarn : Bool
  atFloor : Bool
  deriving DecidableEq, Repr

/-- What an in-flight transfer delivers (R125, R136, R142). -/
inductive Delivery where
  | block (sequence : Nat)
  | emptyReply
  | marks (first count : Nat)
  deriving DecidableEq, Repr

/-- A transfer in flight (R134, R142): what it delivers, the requested bytes fixed at the start of its
data phase, the lane width of its Frame, the data edges clocked so far, and, once it is overtaken, how
many data edges had been clocked then (R138, R144). -/
structure Transfer where
  delivery : Delivery
  payload : List Byte
  lanes : LaneWidth
  edges : Nat
  overtaken : Option Nat
  deriving DecidableEq, Repr

/-- A Reader Context (R125, Table 7.1). -/
structure Reader where
  state : ReaderState
  retention : Option Retention
  read : Nat
  release : Nat
  mark : Nat
  availLevel : Nat
  lagLevel : Nat
  pair : PairState
  skipped : Nat
  missed : Nat
  flight : Option Transfer
  flags : ReaderFlags
  deriving DecidableEq, Repr

/-! ### Ports and events (chapters 9 and 10) -/

/-- Result codes (Table 9.3). -/
inductive Result where
  | ok
  | already
  | clamped
  | busy
  | state
  | range
  | unknown
  | badFrame
  | notAttached
  | empty
  | released
  | partialRead
  | overtaken
  | holdFull
  | holdSpan
  | guarded
  | noEnable
  | undrained
  | benchHeld
  | stale
  | thresholds
  | planEmpty
  | planRange
  | planSumWidth
  | planOverlap
  | planTotal
  | planSize
  deriving DecidableEq, Repr

/-- A Client Port (R169, R170, R180, R193). `out`, `part` and `ended` are the model's record of what the part
shifts out in the port's last Frame that it took, none where it drove no lane (log entry 14). -/
structure PortState where
  result : Result
  /-- Store Latch -/
  latch : Bool
  /-- the whole bytes, the first the Result byte -/
  out : List (Option Byte)
  /-- the bits of a part byte at the Frame's end, most significant first (R167) -/
  part : List (Option Bool)
  /-- a transfer that RESET has ended while its Frame goes on, with the edges clocked then (R149, R175) -/
  ended : Option Transfer
  deriving DecidableEq, Repr

/-- The sixteen events (R181). -/
inductive Event where
  | avail
  | lag
  | cut
  | markCut
  | gap
  | mark
  | marksLost
  | link
  | clip
  | state
  | floor
  | holdTrimmed
  | plan
  | clock
  | storeDone
  | defaulted
  deriving DecidableEq, Repr

/-- One port's Event Flags and Mask (R181). -/
structure EventPort where
  flags : BitVec 16
  mask : BitVec 16
  deriving DecidableEq, Repr

/-! ### Settings (chapter 11) -/

/-- Activity settings of one Track number (R60). -/
structure TrackSettings where
  threshold : Nat
  attack : Nat
  hangover : Nat
  eligible : Bool
  deriving DecidableEq, Repr

/-- Restricted Access (Table 11.1). -/
inductive Access where
  | granted
  | denied
  deriving DecidableEq, Repr

/-- Guard Modes (R191); `opened` is the mode OPEN. -/
inductive GuardMode where
  | opened
  | keyed
  | sessionLock
  | fixed
  deriving DecidableEq, Repr

/-- The unguarded Working Settings (R188, R192). -/
structure GeneralSettings where
  plan : Plan
  gain : Vector Nat 32
  track : Vector TrackSettings 32
  margin : Nat
  challenge : Nat
  fill : Int
  source : ClockSource
  linkEnable : Vector Bool 8
  timing : Both PortTiming
  deriving DecidableEq, Repr

/-- The guarded Working Settings (R188, R192). -/
structure GuardedSettings where
  retention : Both Retention
  access : Both Access
  mode : GuardMode
  deriving DecidableEq, Repr

/-- The Working Settings (Table 11.1). -/
structure Settings where
  general : GeneralSettings
  guarded : GuardedSettings
  deriving DecidableEq, Repr

/-- Pending activity settings of one Track number (R62). -/
structure PendingTrack where
  threshold : Option Nat
  attack : Option Nat
  hangover : Option Nat
  eligible : Option Bool
  deriving DecidableEq, Repr

/-- Values that wait for a Block Boundary (R20, R52, R62). -/
structure PendingChanges where
  gain : Vector (Option Nat) 32
  track : Vector PendingTrack 32
  margin : Option Nat
  challenge : Option Nat
  source : Option ClockSource
  deriving DecidableEq, Repr

/-- One part of the Image (R192): whether its check word matches, whether every field of it that is a
code holds a defined one (R195), and what it holds. -/
structure ImagePart (α : Type) where
  checkMatches : Bool
  codesDefined : Bool
  content : α
  deriving DecidableEq, Repr

/-- The Image (R192). -/
structure Image where
  general : ImagePart GeneralSettings
  guarded : ImagePart GuardedSettings
  deriving DecidableEq, Repr

/-- A store in progress (R193): its snapshot, the storing port, and whether its completion sets
STORE_DONE (R194). -/
structure StoreJob where
  port : Port
  general : GeneralSettings
  guarded : GuardedSettings
  notify : Bool
  deriving DecidableEq, Repr

/-- Whether the part has power, and whether its start-up settings load has completed (R175, R195). -/
inductive Power where
  | off
  | loading
  | running
  deriving DecidableEq, Repr

end Sys2Proof.Machine
end

