-- ==== Sys2Proof/Machine/Defaults.lean ====
section
/-! DEFINITION. The factory defaults (Table 11.1, R40) and the value of each block's state after power-on
(Tables 2.7, 3.7, 4.4, 5.5, 6.4, 7.7, 8.4, 9.5, 10.2; R15, R22). -/

namespace Sys2Proof.Machine

/-- The same thing for both ports. -/
def Both.same {α : Type} (x : α) : Both α := ⟨x, x⟩

/-- The factory default plan (R40): entry 0 DIRECT, Channels 0 to 31. -/
def defaultPlan : Plan where
  width := .w16
  total := 32
  entries := (Vector.replicate 16 none).set 0 (some ⟨.direct, 0, 32⟩)

/-- Factory defaults of one Track number's activity settings (Table 4.1). -/
def defaultTrackSettings : TrackSettings := ⟨1024, 3, 30, true⟩

/-- Factory defaults of the unguarded settings (Table 11.1). -/
def defaultGeneral : GeneralSettings where
  plan := defaultPlan
  gain := Vector.replicate 32 256
  track := Vector.replicate 32 defaultTrackSettings
  margin := 2048
  challenge := 5
  fill := 0
  source := .internal
  linkEnable := Vector.replicate 8 true
  timing := Both.same ⟨.one, .eight⟩

/-- Factory defaults of the guarded settings (Table 11.1). -/
def defaultGuarded : GuardedSettings where
  retention := ⟨.binding, .yielding⟩
  access := ⟨.granted, .denied⟩
  mode := .opened

/-- Factory defaults of the Working Settings (Table 11.1). -/
def defaultSettings : Settings := ⟨defaultGeneral, defaultGuarded⟩

/-- No value waits (Tables 3.7, 4.4; R22). -/
def noChanges : PendingChanges where
  gain := Vector.replicate 32 none
  track := Vector.replicate 32 ⟨none, none, none, none⟩
  margin := none
  challenge := none
  source := none

/-- The starting state of a Link Receiver (R15). -/
def startLink : Link where
  state := .down
  expected := 0
  goodRun := 0
  withoutGood := 0
  seekStay := 0
  slipStay := 0
  badFrames := 0
  hold := Vector.replicate 4 0
  out := Vector.replicate 4 ⟨0, .filled⟩
  heard := false

/-- The starting state of the Sample Clock Unit for a source setting (R22). -/
def startClock : ClockSource → ClockUnit
  | .internal => ⟨.internal, 0, 0, none⟩
  | .house => ⟨.house, 0, 0, none⟩

/-- The starting state of the Plan Unit for an Active Plan (Table 2.7). -/
def startPlans (active : Plan) : PlanUnit := ⟨active, none, 0, none, 0⟩

/-- The starting state of the Track Processor (Table 3.7). -/
def startTracks : TrackProcessor := ⟨Vector.replicate 32 0, false, false, none⟩

/-- The starting state of one Track number's activity (Table 4.4). -/
def startActivity : TrackActivity := ⟨.quiet, 0, 0⟩

/-- The starting state of the Floor Arbiter (Table 4.4). -/
def startFloor : Floor := ⟨none, none, 0⟩

/-- The starting state of a Bench Line (Table 5.5). -/
def startLine : BenchLine := ⟨false, 0, 0, false⟩

/-- The starting state of the Proceedings Controller (Table 5.5). -/
def startProceedings : Proceedings where
  state := .closed
  target := none
  session := 0
  verify := false
  clock := 0
  periods := 0
  restricted := false
  recording := false
  opening := false
  lines := ⟨startLine, startLine, startLine, startLine, startLine⟩

/-- The empty ring with an empty Hold Table (Table 6.4). -/
def startRing : Ring := ⟨[], 0, none, Vector.replicate 8 none, Both.same none⟩

/-- The empty Mark List (Table 8.4). -/
def startMarks : MarkList := ⟨[], 0, 0, none⟩

/-- All five flags clear. -/
def clearFlags : ReaderFlags := ⟨false, false, false, false, false⟩

/-- A Reader after power-on or the RESET line (Table 7.7). -/
def startReader : Reader where
  state := .detached
  retention := none
  read := 0
  release := 0
  mark := 0
  availLevel := 0
  lagLevel := 1024
  pair := .complete
  skipped := 0
  missed := 0
  flight := none
  flags := clearFlags

/-- A Client Port after power-on (Table 9.5). -/
def startPort : PortState := ⟨.ok, false, [], [], none⟩

/-- One port's events after power-on (Table 10.2). -/
def startEvents : EventPort := ⟨0, 0⟩

/-- The Image of a part whose settings have never been stored: neither check word matches (DESIGN
CHOICE, log entry 1). -/
def blankImage : Image := ⟨⟨false, true, defaultGeneral⟩, ⟨false, true, defaultGuarded⟩⟩

end Sys2Proof.Machine
end

