-- ==== Sys2Proof/Machine/State.lean ====
section
/-! DEFINITION. The state of the part, the reasons a step can stop, and the state after power-on. -/

namespace Sys2Proof.Machine

/-- The state of the part: every block of Table 0.1, and the queue of waiting commands. -/
structure State where
  /-- the model's queue of commands, first in first out (log entry 3) -/
  pending : List Instr
  power : Power
  /-- RESET is asserted -/
  resetLine : Bool
  /-- a Sample Period is in progress (R16, R79) -/
  inPeriod : Bool
  /-- link frame syncs driven since power-on (R16; log entry 14) -/
  frameSyncs : Nat
  stage : BoundaryStage
  links : Vector Link 8
  clockUnit : ClockUnit
  plans : PlanUnit
  tracks : TrackProcessor
  /-- the Block in progress (R101) -/
  inProgress : Option BlockInProgress
  activity : Vector TrackActivity 32
  floor : Floor
  proc : Proceedings
  ring : Ring
  marks : MarkList
  readers : Both Reader
  ports : Both PortState
  events : Both EventPort
  settings : Settings
  changes : PendingChanges
  image : Image
  store : Option StoreJob
  deriving DecidableEq, Repr

/-- The part never stops with a fault: every Frame gets a Result (R171) and every damaged link frame a
Source State (R11), so no command raises one. The type is closed and empty. -/
inductive Fault where
  deriving DecidableEq, Repr

/-- Reasons a command could be refused by the model. -/
inductive Refusal where
  /-- The command has no meaning in the model. Raised by a refused arm of `exec` only (there is none);
  safe, since the step stops. -/
  | notModelled (mnemonic : String)
  deriving DecidableEq, Repr

/-- The state of a part that has just been powered with an Image: every block at its power-on value and
the start-up settings load in progress (R195). -/
def State.powered (image : Image) : State where
  pending := []
  power := .loading
  resetLine := false
  inPeriod := false
  frameSyncs := 0
  stage := .idle
  links := Vector.replicate 8 startLink
  clockUnit := startClock .internal
  plans := startPlans defaultPlan
  tracks := startTracks
  inProgress := none
  activity := Vector.replicate 32 startActivity
  floor := startFloor
  proc := startProceedings
  ring := startRing
  marks := startMarks
  readers := Both.same startReader
  ports := Both.same startPort
  events := Both.same startEvents
  settings := defaultSettings
  changes := noChanges
  image := image
  store := none

/-- The part right after power-on, its Image never stored (R195; log entry 1). -/
def State.reset : State := State.powered blankImage

end Sys2Proof.Machine
end

