-- ==== Sys2Proof/Machine/Operands.lean ====
section
/-! DEFINITION. The operand forms: byte order, the bytes a Frame carries under a lane width, the codes of
Table 12.2, and access to per-port, per-line and per-Track things. -/

namespace Sys2Proof

/-- Rising edges that a byte after the command byte takes (R168). -/
def LaneWidth.edgesPerByte : LaneWidth → Nat
  | .one => 8
  | .four => 2

/-- Bits of a byte after the command byte that one rising edge carries (R168). -/
def LaneWidth.bitsPerEdge : LaneWidth → Nat
  | .one => 1
  | .four => 4

/-- Dummy bytes of a read latency (R134). -/
def ReadLatency.bytes : ReadLatency → Nat
  | .four => 4
  | .eight => 8

/-- The rising edges of a Frame after its command byte. -/
def Frame.edges (f : Frame) : Nat := f.lanes.length + f.tail

/-- The lane levels at edge `i` after the command byte. -/
def Frame.edge (f : Frame) (i : Nat) : Nibble := f.lanes.getD i 0

/-- Byte `i` after the command byte as the part reads it: lane 0 at eight edges, or four lanes at two,
most significant first (R168). -/
def Frame.byteAt (w : LaneWidth) (f : Frame) (i : Nat) : Byte :=
  match w with
  | .one =>
    BitVec.ofBool ((f.edge (8 * i)).getLsbD 0) ++ BitVec.ofBool ((f.edge (8 * i + 1)).getLsbD 0) ++
      BitVec.ofBool ((f.edge (8 * i + 2)).getLsbD 0) ++ BitVec.ofBool ((f.edge (8 * i + 3)).getLsbD 0) ++
      BitVec.ofBool ((f.edge (8 * i + 4)).getLsbD 0) ++ BitVec.ofBool ((f.edge (8 * i + 5)).getLsbD 0) ++
      BitVec.ofBool ((f.edge (8 * i + 6)).getLsbD 0) ++ BitVec.ofBool ((f.edge (8 * i + 7)).getLsbD 0)
  | .four => f.edge (2 * i) ++ f.edge (2 * i + 1)

/-- The first `n` bytes after the command byte. -/
def Frame.bytes (w : LaneWidth) (f : Frame) (n : Nat) : List Byte :=
  (List.range n).map (f.byteAt w)

/-- The edges by which a host sends a byte at a lane width (R168). -/
def byteEdges (w : LaneWidth) (b : Byte) : List Nibble :=
  match w with
  | .one =>
    [7, 6, 5, 4, 3, 2, 1, 0].map fun i => if b.getLsbD i then 1 else 0
  | .four => [b.extractLsb' 4 4, b.extractLsb' 0 4]

/-- The Frame by which a host sends these bytes after a command byte, and then clocks `tail` edges. -/
def Frame.ofBytes (w : LaneWidth) (bs : List Byte) (tail : Nat := 0) : Frame :=
  ⟨bs.flatMap (byteEdges w), tail, none, .steady⟩

end Sys2Proof

namespace Sys2Proof.Machine

/-! ### Byte order (R198) -/

/-- `n` bytes of a number, least significant first (R198); a larger number loses its high bytes. -/
def le : Nat → Nat → List Byte
  | 0, _ => []
  | n + 1, v => BitVec.ofNat 8 v :: le n (v / 256)

/-- `n` bytes of a signed value in two's complement, least significant first (R198). -/
def leSigned (n : Nat) (v : Int) : List Byte := le n (v % (256 ^ n : Nat)).toNat

/-- The number that bytes hold, least significant first (R198). -/
def leNat : List Byte → Nat
  | [] => 0
  | b :: bs => b.toNat + 256 * leNat bs

/-- A flag field (R198). -/
def flagByte (b : Bool) : Byte := if b then 1 else 0

/-- The 32-bit value read as two's complement (R198). -/
def signed32 (v : Nat) : Int := if v < 2147483648 then v else (v : Int) - 4294967296

/-! ### Things held once for each port, line and Track number -/

/-- The one of a port. -/
def Both.get {α : Type} (x : Both α) : Port → α
  | .a => x.a
  | .b => x.b

/-- Replace the one of a port. -/
def Both.set {α : Type} (x : Both α) (p : Port) (v : α) : Both α :=
  match p with
  | .a => { x with a := v }
  | .b => { x with b := v }

/-- Change the one of a port. -/
def Both.update {α : Type} (x : Both α) (p : Port) (f : α → α) : Both α := x.set p (f (x.get p))

/-- Change both. -/
def Both.map {α β : Type} (x : Both α) (f : α → β) : Both β := ⟨f x.a, f x.b⟩

/-- The other port. -/
def otherPort : Port → Port
  | .a => .b
  | .b => .a

/-- The Bench Line of a name. -/
def BenchLines.get (x : BenchLines) : Line → BenchLine
  | .onRec => x.onRec
  | .offRec => x.offRec
  | .privacy => x.privacy
  | .mark => x.mark
  | .key => x.key

/-- Replace the Bench Line of a name. -/
def BenchLines.set (x : BenchLines) (l : Line) (v : BenchLine) : BenchLines :=
  match l with
  | .onRec => { x with onRec := v }
  | .offRec => { x with offRec := v }
  | .privacy => { x with privacy := v }
  | .mark => { x with mark := v }
  | .key => { x with key := v }

/-- The level of a Bench Line in a Sample Period. -/
def levelOf (x : BenchLevels) : Line → Bool
  | .onRec => x.onRec
  | .offRec => x.offRec
  | .privacy => x.privacy
  | .mark => x.mark
  | .key => x.key

/-- Element `i` of a table of 32 Track numbers, `d` for a number above 31. -/
def trackAt {α : Type} (v : Vector α 32) (i : Nat) (d : α) : α := if h : i < 32 then v[i] else d

/-- The party that a port is (Table 8.1). -/
def partyOf : Port → Party
  | .a => .portA
  | .b => .portB

/-! ### What goes out of a byte, and of a transfer (R135 to R138, R142 to R144, R167) -/

/-- Whole bytes that have been clocked of a transfer's data (R168). -/
def Transfer.bytesOf (t : Transfer) (edges : Nat) : Nat := edges / t.lanes.edgesPerByte

/-- The first `sent` bits of one byte and the rest of another. -/
def joinBits (sent : Nat) (old new : Byte) : Byte :=
  (old &&& ~~~(0xFF#8 >>> sent)) ||| (new &&& (0xFF#8 >>> sent))

/-- Data byte `i` as the host receives it: a byte clocked after the requested bytes is 00H (R135, R142), and
so is every byte after an overtaking; of a requested byte that was half out then, the bits already sent are
its own and the rest are a free value (R138, R144; log entry 13). -/
def Transfer.byteOut (t : Transfer) (i : Nat) : Byte :=
  let own := t.payload.getD i 0
  match t.overtaken with
  | none => own
  | some cut =>
    let sent := cut % t.lanes.edgesPerByte
    if i < t.bytesOf cut ∨ t.payload.length ≤ i then own
    else if i = t.bytesOf cut ∧ sent ≠ 0 then
      joinBits (sent * t.lanes.bitsPerEdge) own (Config.tornByte own sent)
    else 0

/-- The whole data bytes of a transfer that has ended (R135, R136, R142). -/
def Transfer.dataOut (t : Transfer) : List (Option Byte) :=
  (List.range (t.bytesOf t.edges)).map fun i => some (t.byteOut i)

/-- The first `n` bits of a byte, most significant first; none where the part drives no lane (R167). -/
def leadingBits (n : Nat) (b : Option Byte) : List (Option Bool) :=
  (List.range n).map fun i => b.map fun x => x.getLsbD (7 - i)

/-- Bits of the part byte at the end of `edges` edges after the command byte (R167, R168). -/
def partLength (w : LaneWidth) (edges : Nat) : Nat := edges % w.edgesPerByte * w.bitsPerEdge

/-- The bits of a part byte at the end of a transfer (R167). -/
def Transfer.partOut (t : Transfer) : List (Option Bool) :=
  leadingBits (partLength t.lanes t.edges) (some (t.byteOut (t.bytesOf t.edges)))

/-! ### Codes (Table 12.2, R203) -/

def stateCode : ProceedingsState → Byte
  | .closed => 0
  | .offRecord => 1
  | .onRecord => 2
  | .sidebar => 3

def targetCode : Option (Target × Party) → Byte
  | none => 0
  | some (.offRecord, _) => 1
  | some (.onRecord, _) => 2
  | some (.sidebar, _) => 3
  | some (.close, _) => 4

def partyCode : Party → Byte
  | .portA => 0
  | .portB => 1
  | .bench => 2
  | .device => 3

def portCode : Port → Byte
  | .a => 0
  | .b => 1

/-- Last editor, owner: a port or NONE (FFH). -/
def portOrNone : Option Port → Byte
  | none => 0xFF
  | some p => portCode p

def kindCode : BlockKind → Byte
  | .audio => 1
  | .gap => 2

def classCode : BlockClass → Byte
  | .opened => 0
  | .restricted => 1
  | .test => 2

def sourceCode : SourceState → Byte
  | .live => 0
  | .concealed => 1
  | .filled => 2
  | .pattern => 3

def activityCode : ActivityState → Byte
  | .quiet => 0
  | .rising => 1
  | .active => 2
  | .hanging => 3

def modeCode : GroupMode → Byte
  | .direct => 1
  | .sum => 2
  | .half => 3
  | .third => 4
  | .undefined c => c

/-- The mode of PLAN_SET_GROUP: none for UNUSED, an error where the code is none of the five (R29). -/
def modeOfCode (c : Byte) : Option (Option GroupMode) :=
  match c.toNat with
  | 0 => some none
  | 1 => some (some .direct)
  | 2 => some (some .sum)
  | 3 => some (some .half)
  | 4 => some (some .third)
  | _ => none

def linkStateCode : LinkState → Byte
  | .down => 0
  | .seeking => 1
  | .locked => 2
  | .slipping => 3

def clockSourceCode : ClockSource → Byte
  | .internal => 0
  | .house => 1

def readerStateCode : ReaderState → Byte
  | .detached => 0
  | .following => 1
  | .cut => 2

def retentionCode : Option Retention → Byte
  | none => 0
  | some .binding => 1
  | some .yielding => 2

def accessCode : Access → Byte
  | .granted => 1
  | .denied => 2

def guardCode : GuardMode → Byte
  | .opened => 0
  | .keyed => 1
  | .sessionLock => 2
  | .fixed => 3

/-- A Track number or NONE (FFH, R198). -/
def trackOrNone : Option (Fin 32) → Byte
  | none => 0xFF
  | some t => BitVec.ofNat 8 t.val

/-- A last-placed entry number or NONE (FFH, R198). -/
def entryOrNone : Option (Fin 8) → Byte
  | none => 0xFF
  | some e => BitVec.ofNat 8 e.val

def markKindCode : MarkKind → Byte
  | .sessionOpen => 1
  | .sessionClose => 2
  | .state => 3
  | .bench => 4
  | .note => 5
  | .floor => 6
  | .level => 7
  | .link => 8
  | .clock => 9
  | .plan => 10
  | .marksLost => 11

/-- Result codes (Table 12.8). -/
def resultCode : Result → Byte
  | .ok => 0x00
  | .already => 0x01
  | .clamped => 0x02
  | .busy => 0x10
  | .state => 0x11
  | .range => 0x12
  | .unknown => 0x13
  | .badFrame => 0x14
  | .notAttached => 0x15
  | .empty => 0x16
  | .released => 0x17
  | .partialRead => 0x18
  | .overtaken => 0x19
  | .holdFull => 0x1A
  | .holdSpan => 0x1B
  | .guarded => 0x1C
  | .noEnable => 0x1D
  | .undrained => 0x1E
  | .benchHeld => 0x1F
  | .stale => 0x20
  | .thresholds => 0x21
  | .planEmpty => 0x30
  | .planRange => 0x31
  | .planSumWidth => 0x32
  | .planOverlap => 0x33
  | .planTotal => 0x34
  | .planSize => 0x35

/-- Sample width in bits (R23). -/
def widthBits : Width → Nat
  | .w16 => 16
  | .w24 => 24

/-- Bytes of a sample (R33). -/
def widthBytes : Width → Nat
  | .w16 => 2
  | .w24 => 3

end Sys2Proof.Machine
end

