-- ==== Sys2Proof/Machine/Flags.lean ====
section
/-! DEFINITION. Every flag the part computes: Event Flag positions (R203), the Attention line (R186), and the
five Reader flags (R129). -/

namespace Sys2Proof.Machine

/-- Bit position of an Event Flag (Table 12.9). -/
def eventBit : Event → Nat
  | .avail => 0
  | .lag => 1
  | .cut => 2
  | .markCut => 3
  | .gap => 4
  | .mark => 5
  | .marksLost => 6
  | .link => 7
  | .clip => 8
  | .state => 9
  | .floor => 10
  | .holdTrimmed => 11
  | .plan => 12
  | .clock => 13
  | .storeDone => 14
  | .defaulted => 15

/-- The 16-bit value with one Event Flag set. -/
def eventMask (e : Event) : BitVec 16 := 1#16 <<< eventBit e

/-- A Reader is attached in FOLLOWING or CUT (R125). -/
def Reader.attached (r : Reader) : Bool :=
  match r.state with
  | .detached => false
  | .following => true
  | .cut => true

/-- avail: stored Blocks not yet read (R128). -/
def Reader.avail (r : Reader) (n : Nat) : Nat := n - r.read

/-- held: Blocks from the Release Cursor to the newest (R128). -/
def Reader.held (r : Reader) (n : Nat) : Nat := n - r.release

/-- The five flags for a value of N (R129, R133). -/
def Reader.flagsAt (r : Reader) (n : Nat) : ReaderFlags :=
  if r.attached then
    { avail := decide (r.avail n > r.availLevel) && decide (r.pair = .complete)
      empty := decide (r.avail n = 0)
      half := decide (r.held n ≥ 4096)
      lagWarn := decide (r.held n + r.lagLevel ≥ 8192) && decide (r.pair = .complete)
      atFloor := decide (r.held n = 8192) }
  else clearFlags

/-- A Reader whose flags have been evaluated again: in CUT it returns to FOLLOWING when HALF is clear
(R129, R131). -/
def Reader.evaluated (r : Reader) (n : Nat) : Reader :=
  { r with
    flags := r.flagsAt n
    state := if r.state = .cut ∧ (r.flagsAt n).half = false then .following else r.state }

/-- A Reader that an attached BINDING claim stands behind (R105, R157). -/
def Reader.binds (r : Reader) : Bool := r.attached && decide (r.retention = some .binding)

/-- A Reader that a freeing can reach (R107, R158). -/
def Reader.yields (r : Reader) : Bool := r.attached && decide (r.retention = some .yielding)

/-- A port's Attention line (R186): a flag selected by the Mask is set and the Level Pair is complete;
inactive while RESET is asserted, while the load runs and without power. -/
def State.attention (s : State) (p : Port) : Bool :=
  match s.power with
  | .running =>
    !s.resetLine && decide ((s.events.get p).flags &&& (s.events.get p).mask ≠ 0) &&
      decide ((s.readers.get p).pair = .complete)
  | .loading => false
  | .off => false

end Sys2Proof.Machine
end

