-- ==== Sys2Proof/Machine/Ops.lean ====
section
/-! DEFINITION. The named operations that several commands share: setting an Event Flag, a Result, what a
port shifts out, and a Reader's flags. -/

namespace Sys2Proof.Machine

/-- A Session is open in every state but CLOSED (R78). -/
def State.sessionOpen (s : State) : Bool :=
  match s.proc.state with
  | .closed => false
  | .offRecord => true
  | .onRecord => true
  | .sidebar => true

/-- The part runs: powered, its load complete and RESET not asserted. -/
def State.live (s : State) : Bool :=
  match s.power with
  | .running => !s.resetLine
  | .loading => false
  | .off => false

/-- Set one port's Event Flag (R181). -/
def State.raise (s : State) (p : Port) (e : Event) : State :=
  { s with events := s.events.update p fun x => { x with flags := x.flags ||| eventMask e } }

/-- Set the Event Flag of both ports (R182). -/
def State.raiseBoth (s : State) (e : Event) : State := (s.raise .a e).raise .b e

/-- Set a port's Result (R170). -/
def State.setResult (s : State) (p : Port) (r : Result) : State :=
  { s with ports := s.ports.update p fun x => { x with result := r } }

/-- Record what a port shifts out in a Frame: whole bytes, and the bits of a part byte (R167, R169). -/
def State.setOut (s : State) (p : Port) (bytes : List (Option Byte)) (bits : List (Option Bool)) : State :=
  { s with ports := s.ports.update p fun x => { x with out := bytes, part := bits, ended := none } }

/-- Replace a port's Reader. -/
def State.setReader (s : State) (p : Port) (r : Reader) : State :=
  { s with readers := s.readers.set p r }

/-- Change what the Proceedings Controller holds. -/
def State.setProc (s : State) (x : Proceedings) : State := { s with proc := x }

/-- Evaluate a port's Reader flags again, setting AVAIL or LAG when its flag rises (R129 to R131). -/
def State.evaluate (s : State) (p : Port) : State :=
  let r := s.readers.get p
  let f := r.flagsAt s.ring.next
  let s := s.setReader p (r.evaluated s.ring.next)
  let s := if f.avail && !r.flags.avail then s.raise p .avail else s
  if f.lagWarn && !r.flags.lagWarn then s.raise p .lag else s

/-- Evaluate both Readers' flags again. -/
def State.evaluateBoth (s : State) : State := (s.evaluate .a).evaluate .b

/-- The source that times the Sample Period (R16, R18, R22). -/
def State.sourceInUse (s : State) : ClockSource :=
  if s.live then
    match s.clockUnit.state with
    | .internal => .internal
    | .house => .house
    | .fallback => .internal
  else .internal

/-- Add one to a count that stops at a maximum. -/
def countTo (limit n : Nat) : Nat := if n < limit then n + 1 else n

end Sys2Proof.Machine
end

