-- ==== Sys2Proof/Machine/Ring.lean ====
section
/-! DEFINITION. The Ring Controller: retention, obtaining Slots, freeing the Oldest Block, storing, the
Pending Gap and the Hold Table (chapter 6). -/

namespace Sys2Proof.Machine

/-- Oldest, N − count (R103). -/
def Ring.oldest (r : Ring) : Nat := r.next - r.blocks.length

/-- The stored Block of a Sequence (R110). -/
def Ring.blockAt (r : Ring) (q : Nat) : Option Block := r.blocks.find? fun b => b.sequence == q

/-- The stored Block whose covered span contains a time (R104). -/
def Ring.covering (r : Ring) (time : Nat) : Option Block :=
  r.blocks.find? fun b => decide (b.time ≤ time ∧ time ≤ b.spanEnd)

/-- An attached BINDING Reader keeps Sequence `q` (R105). -/
def Reader.keeps (x : Reader) (q : Nat) : Bool := x.binds && decide (x.release ≤ q)

/-- A BINDING Hold covers Sequence `q` (R105). -/
def holdKeeps (q : Nat) : Option Hold → Bool
  | none => false
  | some h => decide (h.cls = .binding ∧ h.first ≤ q ∧ q ≤ h.last)

/-- Retention permits the freeing of a stored Block of Sequence `q` (R105). -/
def State.permits (s : State) (q : Nat) : Bool :=
  !(s.readers.a.keeps q) && !(s.readers.b.keeps q) && !(s.ring.holds.toList.any (holdKeeps q))

/-- How many Slots can be obtained, up to two (R106). -/
def State.obtainableSlots (s : State) : Nat :=
  let free := 8192 - s.ring.blocks.length
  let oldest := s.ring.oldest
  if free ≥ 2 then 2
  else if free = 1 then (if s.permits oldest then 2 else 1)
  else if s.permits oldest then (if s.permits (oldest + 1) then 2 else 1)
  else 0

/-- Mark a transfer overtaken when it delivers the freed Block (R109, R138). -/
def Transfer.freedBlock (t : Transfer) (q : Nat) : Transfer :=
  if t.delivery = .block q ∧ t.overtaken = none then { t with overtaken := some t.edges } else t

/-- What the freeing of Sequence `q` does to a Reader: the cursors of a YIELDING Reader it reaches, its
skipped count, its entry into CUT (R107), and its transfer (R109). -/
def Reader.afterFreeing (x : Reader) (q : Nat) : Reader :=
  let x := { x with flight := x.flight.map fun t => t.freedBlock q }
  if x.yields ∧ x.release ≤ q then
    if x.read ≤ q then
      { x with release := q + 1, read := q + 1, skipped := countTo 4294967295 x.skipped, state := .cut }
    else { x with release := q + 1 }
  else x

/-- The freeing of Sequence `q` takes this Reader from FOLLOWING to CUT (R107). -/
def Reader.isCutBy (x : Reader) (q : Nat) : Bool :=
  decide (x.yields ∧ x.release ≤ q ∧ x.read ≤ q ∧ x.state = .following)

/-- Set CUT on a port when the freeing of Sequence `q` cuts its Reader (R107). -/
def State.raiseCut (s : State) (q : Nat) (p : Port) : State :=
  if (s.readers.get p).isCutBy q then s.raise p .cut else s

/-- The freeing of Sequence `q` reaches this Hold (R108). -/
def holdTrimmed (q : Nat) (h : Hold) : Bool := decide (h.cls = .yielding ∧ h.first = q)

/-- A Hold Table entry after the freeing of Sequence `q`: shortened, or free when first passes last
(R108). -/
def trimHold (q : Nat) : Option Hold → Option Hold
  | none => none
  | some h =>
    if holdTrimmed q h then (if q + 1 > h.last then none else some { h with first := q + 1 })
    else some h

/-- A port's last-placed entry number after the entries became `holds`: NONE when its entry was freed
(R117). -/
def lastPlacedAfter (holds : Vector (Option Hold) 8) (e : Option (Fin 8)) : Option (Fin 8) :=
  match e with
  | none => none
  | some i => if holds[i].isSome then some i else none

/-- Replace the Hold Table by one in which entries have only been shortened or freed (R117). -/
def Ring.withHolds (r : Ring) (holds : Vector (Option Hold) 8) : Ring :=
  { r with holds := holds, lastPlaced := r.lastPlaced.map (lastPlacedAfter holds) }

/-- Set HOLD_TRIMMED on a port that owns a Hold the freeing of Sequence `q` reaches (R108). -/
def State.raiseTrimmed (s : State) (q : Nat) (p : Port) : State :=
  if s.ring.holds.toList.any (fun e => e.any fun h => holdTrimmed q h && decide (h.owner = p))
  then s.raise p .holdTrimmed else s

/-- Free the Oldest Block, with what the freeing does to Readers, Holds and transfers (R103, R107 to
R109). -/
def State.freeOldest (s : State) : State :=
  let q := s.ring.oldest
  let s := (s.raiseCut q .a).raiseCut q .b
  let s := (s.raiseTrimmed q .a).raiseTrimmed q .b
  { s with
    readers := s.readers.map fun x => x.afterFreeing q
    ring := { s.ring with blocks := s.ring.blocks.tail }.withHolds
      (Vector.ofFn fun i => trimHold q s.ring.holds[i]) }

/-- Write a Block as Sequence N (R103). -/
def Ring.append (r : Ring) (b : Block) : Ring :=
  { r with blocks := r.blocks ++ [{ b with sequence := r.next }], next := r.next + 1 }

/-- Store a Block as Sequence N: a full ring frees its Oldest Block first (R103, R111); then the Readers'
flags are evaluated (R129; log entry 15). -/
def State.storeBlock (s : State) (b : Block) : State :=
  let s := if s.ring.blocks.length ≥ 8192 then s.freeOldest else s
  State.evaluateBoth { s with ring := s.ring.append b }

/-- The GAP Block for a Pending Gap (R115, Table 6.2); its sequence is set at the storing. -/
def State.gapBlock (s : State) (g : PendingGap) : Block where
  kind := .gap
  cls := if s.proc.verify then .test else if g.restricted then .restricted else .opened
  width := g.firstWidth
  trackCount := 0
  sequence := s.ring.next
  session := s.proc.session
  generation := g.firstGeneration
  time := g.firstTime
  covered := g.count
  bodyLength := 0
  holder := none
  spanEnd := g.spanEnd
  entries := []
  body := []

/-- Store the GAP Block for a Pending Gap, clear the Gap and set GAP on both ports (R115). -/
def State.storeGap (s : State) (g : PendingGap) : State :=
  let s := s.storeBlock (s.gapBlock g)
  State.raiseBoth { s with ring := { s.ring with gap := none } } .gap

/-- The Pending Gap after a recording Block has joined it (R112). -/
def joinGap (gap : Option PendingGap) (b : Block) : PendingGap :=
  let restricted := decide (b.cls = .restricted)
  match gap with
  | none => ⟨1, restricted, b.time, b.generation, b.width, b.time + 479⟩
  | some g => { g with
      count := g.count + 1
      restricted := g.restricted || restricted
      spanEnd := b.time + 479 }

/-- A recording Block that finds no Slot joins the Pending Gap (R112). -/
def State.joinGap (s : State) (b : Block) : State :=
  { s with ring := { s.ring with gap := some (Machine.joinGap s.ring.gap b) } }

/-- What the ring does at a Block Boundary with a recording Block (R111, R113, Table 6.3). -/
def State.storeRecording (s : State) (b : Block) : State :=
  match s.ring.gap with
  | none => if s.obtainableSlots ≥ 1 then s.storeBlock b else s.joinGap b
  | some g =>
    if s.obtainableSlots = 2 then (s.storeGap g).storeBlock b
    else if s.obtainableSlots = 1 then s.storeGap (Machine.joinGap (some g) b)
    else s.joinGap b

/-- Store a waiting Pending Gap when a Slot can be had (R114, R116). -/
def State.tryStoreGap (s : State) : State :=
  match s.ring.gap with
  | none => s
  | some g => if s.obtainableSlots ≥ 1 then s.storeGap g else s

/-- What the ring does with the finished Block at a Block Boundary (R111, R113, R114). -/
def State.ringAtBoundary (s : State) (recording : Bool) (b : Block) : State :=
  if recording then s.storeRecording b else s.tryStoreGap

/-- The re-count at RELEASE, DETACH, DROP_HOLD and PORT_RESET: a waiting Gap is stored when the Block in
Progress is not a recording one and a Slot can be had (R116). -/
def State.drainGap (s : State) : State :=
  if s.sessionOpen && s.proc.recording then s else s.tryStoreGap

/-! ### The Hold Table (section 6.6) -/

/-- The lowest-numbered free entry (R118). -/
def freeEntry (holds : Vector (Option Hold) 8) : Option (Fin 8) :=
  (List.finRange 8).find? fun i => holds[i].isNone

/-- PLACE_HOLD, its tests in order (R118). -/
def State.placeHold (s : State) (p : Port) (first last : Nat) : Result × State :=
  if s.ring.blocks = [] ∨ ¬(s.ring.oldest ≤ first ∧ first ≤ last ∧ last < s.ring.next) then (.range, s)
  else if last - first + 1 > 6144 then (.holdSpan, s)
  else
    match freeEntry s.ring.holds with
    | none => (.holdFull, s)
    | some e =>
      (.ok, { s with ring := { s.ring with
        holds := s.ring.holds.set e (some ⟨p, s.settings.guarded.retention.get p, first, last⟩)
        lastPlaced := s.ring.lastPlaced.set p (some e) } })

/-- DROP_HOLD, with the re-count that follows a removal (R119, R116). -/
def State.dropHold (s : State) (p : Port) (entry : Nat) : Result × State :=
  if h : entry < 8 then
    match s.ring.holds[entry] with
    | none => (.range, s)
    | some x =>
      if x.owner = p then
        (.ok, State.drainGap { s with ring := s.ring.withHolds (s.ring.holds.set entry none) })
      else (.range, s)
  else (.range, s)

/-- Remove every Hold of a port and set its last-placed entry number to NONE (R121). -/
def Ring.withoutHoldsOf (r : Ring) (p : Port) : Ring :=
  let kept := Vector.ofFn fun i => (r.holds[i]).filter fun h => decide (h.owner ≠ p)
  { r with holds := kept, lastPlaced := r.lastPlaced.set p none }

end Sys2Proof.Machine
end

