-- ==== Sys2Proof/Machine/Marks.lean ====
section
/-! DEFINITION. The Mark List: block references, the RESTRICTED flag, obtaining entries, freeing, insertion
and loss (chapter 8). -/

namespace Sys2Proof.Machine

/-- Serial of the oldest stored Mark, or the next serial when the list is empty (R152). -/
def MarkList.oldest (m : MarkList) : Nat := m.next - m.marks.length

/-- A time lies in the Block Period now being assembled (R154). -/
def State.inBlockPeriod (s : State) (time : Nat) : Bool :=
  s.sessionOpen && decide (480 * s.proc.periods ≤ time ∧ time ≤ 480 * s.proc.periods + 479)

/-- The block reference of a Mark with this time (R154). -/
def State.blockReference (s : State) (time : Nat) : Option Nat :=
  match s.ring.covering time with
  | some b => some b.sequence
  | none =>
    if s.inBlockPeriod time && s.proc.recording && s.ring.gap.isNone then some s.ring.next else none

/-- The Proceedings State that an insertion sees: at a Block Boundary the state after it (R154). -/
def State.stateForMarks (s : State) : ProceedingsState :=
  match s.stage with
  | .idle => s.proc.state
  | .begun => s.proc.state
  | .turned next _ => next

/-- The Block in Progress is to be classed RESTRICTED (Table 5.4). -/
def State.restrictedInProgress (s : State) : Bool := s.proc.restricted && !s.proc.verify

/-- A time lies within a restricted Pending Gap (R155). -/
def State.inRestrictedGap (s : State) (time : Nat) : Bool :=
  match s.ring.gap with
  | none => false
  | some g => g.restricted && decide (g.firstTime ≤ time ∧ time ≤ g.spanEnd)

/-- The time lies in a stored Block of class RESTRICTED (R155). -/
def State.inRestrictedBlock (s : State) (time : Nat) : Bool :=
  match s.ring.covering time with
  | none => false
  | some b => decide (b.cls = .restricted)

/-- The RESTRICTED flag of a Mark with this time (R155). -/
def State.markRestricted (s : State) (ask : Bool) (time : Nat) : Bool :=
  decide (s.stateForMarks = .sidebar) || ask || s.inRestrictedBlock time ||
    (s.inBlockPeriod time && s.restrictedInProgress) || s.inRestrictedGap time

/-- The Mark that a request makes, to be stored under the next serial (R153). -/
def State.makeMark (s : State) (q : MarkRequest) : Mark where
  serial := s.marks.next
  kind := q.kind
  origin := q.origin
  time := q.time
  block := s.blockReference q.time
  arg := q.arg
  tag := q.tag
  restricted := s.markRestricted q.askRestricted q.time
  clamped := q.clamped

/-- An attached BINDING Reader's Mark Cursor is at or below this serial (R157). -/
def State.marksBound (s : State) (serial : Nat) : Bool :=
  (s.readers.a.binds && decide (s.readers.a.mark ≤ serial)) ||
    (s.readers.b.binds && decide (s.readers.b.mark ≤ serial))

/-- How many entries can be obtained, up to two (R157). -/
def State.obtainableEntries (s : State) : Nat :=
  let count := s.marks.marks.length
  let oldest := s.marks.oldest
  if count ≤ 1022 then 2
  else if count = 1023 then (if s.marksBound oldest then 1 else 2)
  else if s.marksBound oldest then 0
  else if s.marksBound (oldest + 1) then 1
  else 2

/-- Mark a transfer overtaken when it delivers the freed Mark (R144, R158). -/
def Transfer.freedMark (t : Transfer) (serial : Nat) : Transfer :=
  match t.delivery with
  | .marks first count =>
    if first ≤ serial ∧ serial < first + count ∧ t.overtaken = none then
      { t with overtaken := some t.edges }
    else t
  | .block _ => t
  | .emptyReply => t

/-- What the freeing of a Mark does to a Reader (R158). -/
def Reader.afterMarkFreeing (x : Reader) (serial : Nat) : Reader :=
  if x.yields ∧ x.mark ≤ serial then
    { x with
      mark := serial + 1
      missed := countTo 4294967295 x.missed
      flight := x.flight.map fun t => t.freedMark serial }
  else x

/-- Set MARK_CUT on a port whose Reader the freeing of a Mark reaches (R158). -/
def State.raiseMarkCut (s : State) (serial : Nat) (p : Port) : State :=
  if (s.readers.get p).yields ∧ (s.readers.get p).mark ≤ serial then s.raise p .markCut else s

/-- Free the oldest Mark (R158). -/
def State.freeMark (s : State) : State :=
  let serial := s.marks.oldest
  let s := (s.raiseMarkCut serial .a).raiseMarkCut serial .b
  { s with
    readers := s.readers.map fun x => x.afterMarkFreeing serial
    marks := { s.marks with marks := s.marks.marks.tail } }

/-- Put a Mark at the end of the list under the next serial (R152, R153). -/
def MarkList.append (m : MarkList) (x : Mark) : MarkList :=
  { m with marks := m.marks ++ [{ x with serial := m.next }], next := m.next + 1 }

/-- Store a Mark: a full list frees its oldest first; MARK is set on both ports (R159, R163). -/
def State.storeMark (s : State) (q : MarkRequest) : State :=
  let x := s.makeMark q
  let s := if s.marks.marks.length ≥ 1024 then s.freeMark else s
  State.raiseBoth { s with marks := s.marks.append x } .mark

/-- Count a Mark lost (R159, R160). -/
def State.countLost (s : State) (time : Nat) : State :=
  let m := s.marks
  let m := { m with
    lost := countTo 4294967295 m.lost
    firstLost := if m.lost = 0 then some time else m.firstLost }
  State.raiseBoth { s with marks := m } .marksLost

/-- The request for the MARKS_LOST Mark (R161). -/
def State.lostRequest (s : State) : MarkRequest where
  kind := .marksLost
  origin := .device
  time := s.marks.firstLost.getD 0
  arg := BitVec.ofNat 16 (min s.marks.lost 65535)
  tag := none
  askRestricted := false
  clamped := false

/-- Store the MARKS_LOST Mark and clear the lost count (R161). -/
def State.storeLost (s : State) : State :=
  let s := s.storeMark s.lostRequest
  { s with marks := { s.marks with lost := 0, firstLost := none } }

/-- Take an insertion request (R153, R159, R160). -/
def State.insertMark (s : State) (q : MarkRequest) : State :=
  if s.marks.lost = 0 then
    if s.obtainableEntries ≥ 1 then s.storeMark q else s.countLost q.time
  else if s.obtainableEntries = 2 then (s.storeLost).storeMark q
  else if s.obtainableEntries = 1 then (s.countLost q.time).storeLost
  else s.countLost q.time

/-- A request of a block of the part: made only while a Session is open (R153). -/
def State.requestMark (s : State) (q : MarkRequest) : State :=
  if s.sessionOpen then s.insertMark q else s

/-- The re-count of R162: in CLOSED with Marks counted lost and an entry to be had, the MARKS_LOST Mark
is stored. -/
def State.drainLost (s : State) : State :=
  if !s.sessionOpen ∧ s.marks.lost > 0 ∧ s.obtainableEntries ≥ 1 then s.storeLost else s

/-- A request with the parts that most Marks of the part share (Table 8.2). -/
def deviceMark (kind : MarkKind) (time : Nat) (arg : BitVec 16) : MarkRequest :=
  ⟨kind, .device, time, arg, none, false, false⟩

/-- The argument of a FLOOR Mark (R200). -/
def floorArg : Option (Fin 32) → BitVec 16
  | none => 0xFFFF
  | some t => BitVec.ofNat 16 t.val

end Sys2Proof.Machine
end

