-- ==== Sys2Proof/Machine/Clock.lean ====
section
/-! DEFINITION. The Sample Clock Unit (sections 1.6 and R16 to R22). -/

namespace Sys2Proof.Machine

/-- The house counts at the end of a Sample Period, by its edge or lack of one; a period that has been counted
is not counted again (R17, Table 1.6). -/
def ClockUnit.examine (u : ClockUnit) : ClockUnit :=
  match u.edge with
  | none => u
  | some true => { u with housePresent := countTo 48000 u.housePresent, edgeless := 0, edge := none }
  | some false => { u with housePresent := 0, edgeless := countTo 3 u.edgeless, edge := none }

/-- The Sample Period in progress is counted (R17; log entry 6). -/
def State.examineHouse (s : State) : State := { s with clockUnit := s.clockUnit.examine }

/-- The CLOCK Mark of a change to a source (R21, R200). -/
def clockMark (time : Nat) (source : ClockSource) : MarkRequest :=
  deviceMark .clock time ((clockSourceCode source).setWidth 16)

/-- Put the Sample Clock Unit into a state; a change of the source in use sets CLOCK on both ports. The
Mark is the caller's (R21). -/
def State.setClockState (s : State) (next : ClockState) : State :=
  let old := s.sourceInUse
  let s := { s with clockUnit := { s.clockUnit with state := next } }
  if s.sourceInUse = old then s else s.raiseBoth .clock

/-- The house clock is lost: HOUSE with three edgeless Sample Periods (R18). -/
def State.lossDue (s : State) : Bool :=
  decide (s.clockUnit.state = .house ∧ s.clockUnit.edgeless = 3)

/-- The loss of the house clock, with its CLOCK Mark at the third edgeless Sample Period (R18, R21). -/
def State.loseHouse (s : State) : State :=
  State.requestMark (s.setClockState .fallback) (clockMark s.proc.clock .internal)

/-- The unit waits in FALLBACK with the house clock steady (R19). -/
def State.returnDue (s : State) : Bool :=
  decide (s.clockUnit.state = .fallback ∧ s.clockUnit.housePresent = 48000)

/-- The state that a source setting puts the unit into (R20). -/
def ClockUnit.afterSetting (u : ClockUnit) (source : ClockSource) : ClockState :=
  match source with
  | .internal => .internal
  | .house =>
    match u.state with
    | .internal => if u.housePresent = 48000 then .house else .fallback
    | .house => .house
    | .fallback => .fallback

/-- A source setting takes effect (R20), its event included. -/
def State.applySource (s : State) (source : ClockSource) : State :=
  let s := { s with settings := { s.settings with
    general := { s.settings.general with source := source } } }
  s.setClockState (s.clockUnit.afterSetting source)

end Sys2Proof.Machine
end

