-- ==== Sys2Proof/Machine/Links.lean ====
section
/-! DEFINITION. The Link Receivers: the Link Frame and its check, the link states, and the samples delivered
(sections 1.2 to 1.4, R197). -/

namespace Sys2Proof.Machine

/-- One step of the CRC-8 of R2: polynomial x^8 + x^2 + x + 1, most significant bit first. -/
def crcStep (crc : Byte) (bit : Bool) : Byte :=
  if crc.getLsbD 7 ^^ bit then (crc <<< 1) ^^^ 0x07 else crc <<< 1

/-- The CRC-8 of a message, initial value 0 (R2). -/
def crc8 (message : List Bool) : Byte := message.foldl crcStep 0

/-- The number that bits hold, first bit most significant (R197). -/
def bitsNat (bits : List Bool) : Nat := bits.foldl (fun n b => 2 * n + if b then 1 else 0) 0

/-- Bits `from` to `from + n − 1` of a Link Frame, as a number (Table 12.1). -/
def field (bits : List Bool) (start n : Nat) : Nat := bitsNat ((bits.drop start).take n)

/-- A 24-bit two's complement sample (R1). -/
def signed24 (v : Nat) : Int := if v < 8388608 then v else (v : Int) - 16777216

/-- The sync pattern E2H is found (R1, R5). -/
def syncFound (bits : List Bool) : Bool := decide (8 ≤ bits.length ∧ field bits 0 8 = 0xE2)

/-- The check matches: all 116 bits are there and the CRC-8 of bits 8 to 107 is bits 108 to 115 (R2,
R197). -/
def checkMatches (bits : List Bool) : Bool :=
  decide (116 ≤ bits.length ∧ (crc8 ((bits.drop 8).take 100)).toNat = field bits 108 8)

/-- The frame count field (R1). -/
def frameCount (bits : List Bool) : BitVec 4 := BitVec.ofNat 4 (field bits 8 4)

/-- The sample of a slot (R1, Table 12.1). -/
def frameSample (bits : List Bool) (slot : Nat) : Int := signed24 (field bits (12 + 24 * slot) 24)

/-- The frame is good (R3): sync, check and count, the count test skipped for the first good frame of a
run in SEEKING. -/
def Link.good (l : Link) (bits : List Bool) : Bool :=
  syncFound bits && checkMatches bits &&
    (decide (frameCount bits = l.expected) || decide (l.state = .seeking ∧ l.goodRun = 0))

/-- The frame bits, if a frame with the sync pattern came: another sync is a missing frame (R1). -/
def framed : LinkInput → Option (List Bool)
  | .absent => none
  | .started bits => if syncFound bits then some bits else none

/-- Whether a judged Sample Period brought a good frame; a missing frame is bad (R3). -/
def Link.judge (l : Link) (x : LinkInput) : Bool :=
  match framed x with
  | none => false
  | some bits => l.good bits

/-- The expected frame count after a judged period (R3). -/
def Link.nextExpected (l : Link) (x : LinkInput) : BitVec 4 :=
  match framed x with
  | none => l.expected + 1
  | some bits => if l.good bits then frameCount bits + 1 else l.expected + 1

/-- The bookkeeping of every judged frame: expected count and bad-frame counter (R3, R4). -/
def Link.counted (l : Link) (x : LinkInput) : Link :=
  { l with
    expected := l.nextExpected x
    badFrames := if l.judge x then l.badFrames else countTo 65535 l.badFrames }

/-- A frame period in SEEKING (R6). -/
def Link.seekingStep (l : Link) (x : LinkInput) : Link :=
  let good := l.judge x
  let run := if good then l.goodRun + 1 else 0
  let stay := l.seekStay + 1
  let l := l.counted x
  if run ≥ 16 then { l with state := .locked, goodRun := run, withoutGood := 0, seekStay := 0 }
  else if stay ≥ 480 then { l with state := .down, goodRun := 0, seekStay := 0 }
  else { l with goodRun := run, seekStay := stay }

/-- A frame period in LOCKED (R7). -/
def Link.lockedStep (l : Link) (x : LinkInput) : Link :=
  let good := l.judge x
  let l := l.counted x
  if good then { l with withoutGood := 0 }
  else { l with state := .slipping, withoutGood := 1, slipStay := 1, goodRun := 0 }

/-- A frame period in SLIPPING (R8). -/
def Link.slippingStep (l : Link) (x : LinkInput) : Link :=
  let good := l.judge x
  let run := if good then l.goodRun + 1 else 0
  let without := if good then 0 else l.withoutGood + 1
  let stay := l.slipStay + 1
  let l := l.counted x
  if run ≥ 4 then { l with state := .locked, withoutGood := 0, goodRun := 0, slipStay := 0 }
  else if without ≥ 48 ∨ stay ≥ 4800 then
    { l with state := .down, goodRun := 0, withoutGood := 0, seekStay := 0, slipStay := 0 }
  else { l with goodRun := run, withoutGood := without, slipStay := stay }

/-- A frame period of a link (R5 to R8, R10): a disabled link stays DOWN, a DOWN link that finds the sync
pattern enters SEEKING and judges that frame at once. -/
def Link.framePeriod (enabled : Bool) (x : LinkInput) (l : Link) : Link :=
  match l.state with
  | .down =>
    if enabled && (framed x).isSome then
      Link.seekingStep { l with state := .seeking, goodRun := 0, seekStay := 0 } x
    else l
  | .seeking => l.seekingStep x
  | .locked => l.lockedStep x
  | .slipping => l.slippingStep x

/-- The link passes samples: LOCKED or SLIPPING (Table 1.2). -/
def LinkState.carries : LinkState → Bool
  | .down => false
  | .seeking => false
  | .locked => true
  | .slipping => true

/-- The frame of the period was judged good, for Table 1.2: a link that was DOWN delivers FILLED whatever
its frame. -/
def Link.wasGood (l : Link) (x : LinkInput) : Bool :=
  match l.state with
  | .down => false
  | .seeking => l.judge x
  | .locked => l.judge x
  | .slipping => l.judge x

/-- The sample of a slot in the frame that came, 0 where none came. -/
def slotSample (x : LinkInput) (slot : Nat) : Int :=
  match framed x with
  | none => 0
  | some bits => frameSample bits slot

/-- The verify pattern of a Channel at a clock value (R13). -/
def verifyPattern (channel clock : Nat) : Int :=
  (((clock + 64 * channel) % 4096 : Nat) - 2048) * 4096

/-- What the Link Receiver delivers for a slot, `after` being the link after the judgement (R11, Table
1.2). -/
def deliver (after : Link) (good : Bool) (x : LinkInput) (fill : Int) (slot : Fin 4) : ChannelSample :=
  if after.state.carries then
    if good then ⟨slotSample x slot, .live⟩
    else if after.withoutGood ≤ 2 then ⟨after.hold[slot], .concealed⟩
    else ⟨fill, .filled⟩
  else ⟨fill, .filled⟩

/-- The hold values after a delivery: a LIVE sample becomes the hold value (R11). -/
def holdAfter (after : Link) (good : Bool) (x : LinkInput) : Vector Int 4 :=
  if after.state.carries && good then Vector.ofFn fun (i : Fin 4) => slotSample x i else after.hold

/-- Judge the frame of a link's Sample Period and deliver its four samples; `verify` is the Proceedings
Clock while a Verify Session is open (R3 to R8, R11, R13). -/
def Link.receive (l : Link) (number : Fin 8) (enabled : Bool) (fill : Int) (verify : Option Nat)
    (x : LinkInput) : Link :=
  let good := l.wasGood x
  let after := l.framePeriod enabled x
  { after with
    heard := true
    hold := holdAfter after good x
    out := Vector.ofFn fun (i : Fin 4) =>
      match verify with
      | some clock => ⟨verifyPattern (4 * number.val + i.val) clock, .pattern⟩
      | none => deliver after good x fill i }

/-- The two transitions that are reported: lock from SEEKING, and DOWN from SLIPPING (R9). -/
def linkReported (before after : LinkState) : Bool :=
  decide (before = .seeking ∧ after = .locked) || decide (before = .slipping ∧ after = .down)

/-- The argument of a LINK Mark: link number and state code (R200). -/
def linkArg (number : Fin 8) (state : LinkState) : BitVec 16 :=
  BitVec.ofNat 8 number.val ++ linkStateCode state

/-- The clock value at which the verify pattern is delivered, while a Verify Session is open (R13). -/
def State.verifyClock (s : State) : Option Nat :=
  if s.sessionOpen && s.proc.verify then some s.proc.clock else none

/-- A link's Receiver after the frame of this Sample Period. -/
def State.received (s : State) (n : Fin 8) (x : LinkInput) : Link :=
  s.links[n].receive n s.settings.general.linkEnable[n] s.settings.general.fill s.verifyClock x

/-- The frame of a link's Sample Period is judged and delivered, and a reported transition sets LINK on
both ports and asks for the LINK Mark (R3 to R11). -/
def State.receiveLink (s : State) (n : Fin 8) (x : LinkInput) : State :=
  let before := s.links[n].state
  let after := s.received n x
  let s := { s with links := s.links.set n after }
  if linkReported before after.state then
    State.requestMark (s.raiseBoth .link)
      (deviceMark .link s.proc.clock (linkArg n after.state))
  else s

/-- A link can take a frame now: a Sample Period is in progress and this one's has not been judged (R1;
log entry 9). -/
def State.awaitsFrame (s : State) (n : Fin 8) : Bool :=
  s.live && s.inPeriod && !s.links[n].heard

/-- The frame of a Sample Period, where it makes the link pass from one state to another (log entry 8). -/
def State.receiveTransition (s : State) (n : Fin 8) (x : LinkInput) (before after : LinkState) : State :=
  if s.awaitsFrame n ∧ s.links[n].state = before ∧ (s.received n x).state = after then
    s.receiveLink n x
  else s

/-- At the end of a Sample Period, a link whose frame was never seen has a missing frame (R1, R3). -/
def State.missLink (s : State) (n : Fin 8) : State :=
  if s.links[n].heard then s else s.receiveLink n .absent

/-- Every link that is still waiting has a missing frame, link 0 first (R1, R3). -/
def State.missLinks (s : State) : State := (List.finRange 8).foldl State.missLink s

/-- Turn a link's enable setting on or off (R10). A link turned on seeks from the next Sample Period on, so
the present period's frame is passed over as that of a link in DOWN. -/
def State.enableLink (s : State) (n : Fin 8) (on : Bool) : State :=
  if s.settings.general.linkEnable[n] = on then s
  else
    let s := if on && s.awaitsFrame n then s.receiveLink n .absent else s
    let g := s.settings.general
    let s := { s with settings := { s.settings with
      general := { g with linkEnable := g.linkEnable.set n on } } }
    if on then s
    else
      let l := s.links[n]
      { s with links := s.links.set n { l with
        state := .down, goodRun := 0, withoutGood := 0, seekStay := 0, slipStay := 0 } }

end Sys2Proof.Machine
end

