-- ==== Sys2Proof/Machine/Plans.lean ====
section
/-! DEFINITION. The Plan Unit: Groups and Tracks, validation, editing, arming and activation (chapter 2). -/

namespace Sys2Proof.Machine

/-- The Groups of a plan, in entry order (R23). -/
def Plan.groups (p : Plan) : List Group := p.entries.toList.filterMap id

/-- The Channels a Group covers (R24). -/
def Group.channels (g : Group) : List Nat := (List.range g.count).map fun i => g.first + i

/-- The Tracks a Group produces, in Channel order (R24, R25). -/
def Group.tracks (g : Group) : List TrackSpec :=
  match g.mode with
  | .sum => [⟨.sum, g.channels⟩]
  | .direct => g.channels.map fun c => ⟨.direct, [c]⟩
  | .half => g.channels.map fun c => ⟨.half, [c]⟩
  | .third => g.channels.map fun c => ⟨.third, [c]⟩
  | .undefined code => g.channels.map fun c => ⟨.undefined code, [c]⟩

/-- The Tracks of a plan, in Track order (R25). -/
def Plan.tracks (p : Plan) : List TrackSpec := p.groups.flatMap Group.tracks

/-- Tracks a Group produces (R33). -/
def Group.trackCount (g : Group) : Nat :=
  match g.mode with
  | .sum => 1
  | .direct => g.count
  | .half => g.count
  | .third => g.count
  | .undefined _ => g.count

/-- Samples a Track of a mode stores in a Block (Table 2.1). A code that is no mode stores none. -/
def modeSamples : GroupMode → Nat
  | .direct => 480
  | .sum => 480
  | .half => 240
  | .third => 160
  | .undefined _ => 0

/-- Track count of a plan (R33). -/
def Plan.trackCount (p : Plan) : Nat := (p.groups.map Group.trackCount).sum

/-- Body length of a plan in bytes (R33, Table 2.3). -/
def Plan.bodyLength (p : Plan) : Nat :=
  (p.groups.map fun g => g.trackCount * modeSamples g.mode * widthBytes p.width).sum

/-- The mode is one of the four (R32 check 2). -/
def GroupMode.defined : GroupMode → Bool
  | .direct => true
  | .sum => true
  | .half => true
  | .third => true
  | .undefined _ => false

/-- Check 2 for one Group (Table 2.2). -/
def Group.inRange (g : Group) : Bool :=
  decide (1 ≤ g.count ∧ g.first + g.count ≤ 32) && g.mode.defined

/-- Check 3 for one Group (Table 2.2). -/
def Group.sumWidthOk (g : Group) : Bool :=
  decide (g.mode = .sum → 2 ≤ g.count ∧ g.count ≤ 4)

/-- Two Groups share no Channel (Table 2.2, check 4). -/
def Group.apart (g h : Group) : Bool := decide (g.first + g.count ≤ h.first ∨ h.first + h.count ≤ g.first)

/-- No Channel lies in two Groups (Table 2.2, check 4). -/
def groupsApart : List Group → Bool
  | [] => true
  | g :: gs => gs.all g.apart && groupsApart gs

/-- Validation: the result code of the first check that fails, or none (R32). -/
def Plan.fault (p : Plan) : Option Result :=
  if p.groups = [] then some .planEmpty
  else if !(p.groups.all Group.inRange) then some .planRange
  else if !(p.groups.all Group.sumWidthOk) then some .planSumWidth
  else if !(groupsApart p.groups) then some .planOverlap
  else if p.trackCount ≠ p.total ∨ p.trackCount > 32 then some .planTotal
  else if p.bodyLength > 32512 then some .planSize
  else none

/-! ### Editing (section 2.2) -/

/-- An accepted edit of the Pending Plan by a port (R27). -/
def PlanUnit.edit (u : PlanUnit) (p : Port) (plan : Plan) : PlanUnit :=
  { u with pendingPlan := plan, editCount := u.editCount + 1, lastEditor := some p }

/-- PLAN_CLEAR (R28). -/
def State.planClear (s : State) (p : Port) : Result × State :=
  let plan := { s.plans.pendingPlan with entries := Vector.replicate 16 none }
  (.ok, { s with plans := s.plans.edit p plan })

/-- PLAN_SET_GROUP (R29). -/
def State.planSetGroup (s : State) (p : Port) (entry first count : Nat) (code : Byte) :
    Result × State :=
  if h : entry < 16 then
    match modeOfCode code with
    | none => (.range, s)
    | some m =>
      let group := m.map fun mode => (⟨mode, first, count⟩ : Group)
      let plan := { s.plans.pendingPlan with
        entries := s.plans.pendingPlan.entries.set entry group }
      (.ok, { s with plans := s.plans.edit p plan })
  else (.range, s)

/-- PLAN_SET_FORMAT (R30). -/
def State.planSetFormat (s : State) (p : Port) (width total : Nat) : Result × State :=
  if width = 16 then
    (.ok, { s with plans := s.plans.edit p { s.plans.pendingPlan with width := .w16, total := total } })
  else if width = 24 then
    (.ok, { s with plans := s.plans.edit p { s.plans.pendingPlan with width := .w24, total := total } })
  else (.range, s)

/-! ### Arming and activation (section 2.4) -/

/-- An Armed Plan becomes Active: the generation, the PLAN event, and the effects on activity, Floor and
Clip counts (R38, R57). The PLAN Mark is the boundary's. -/
def State.activate (s : State) (plan : Plan) : State :=
  State.raiseBoth { s with
    settings := { s.settings with general := { s.settings.general with plan := plan } }
    plans := { s.plans with armed := none, generation := s.plans.generation + 1 }
    activity := Vector.replicate 32 startActivity
    floor := startFloor
    tracks := { s.tracks with clips := Vector.replicate 32 0, restrictedClip := false } } .plan

/-- The record is on, or about to come on: an ACTIVATE_PLAN is refused with STATE (R35). -/
def State.planLocked (s : State) : Bool :=
  match s.proc.state with
  | .closed => false
  | .onRecord => true
  | .sidebar => true
  | .offRecord =>
    match s.proc.target with
    | some (.onRecord, _) => true
    | some (.sidebar, _) => true
    | some (.offRecord, _) => false
    | some (.close, _) => false
    | none => false

/-- ACTIVATE_PLAN (R34 to R37): in CLOSED the Armed Plan becomes Active within the taking. -/
def State.activatePlan (s : State) (expected : BitVec 16) : Result × State :=
  if expected ≠ s.plans.editCount then (.stale, s)
  else
    match s.plans.pendingPlan.fault with
    | some r => (r, s)
    | none =>
      if s.planLocked then (.state, s)
      else if s.sessionOpen then
        (.ok, { s with plans := { s.plans with armed := some s.plans.pendingPlan } })
      else (.ok, s.activate s.plans.pendingPlan)

end Sys2Proof.Machine
end

