-- ==== Sys2Proof/Machine/Tracks.lean ====
section
/-! DEFINITION. The Track Processor: combining, gain, rounding, saturation, Clips, Peaks and Source States
(chapter 3), and the Block in progress (section 6.1). -/

namespace Sys2Proof.Machine

/-- Divisor d of a mode (Table 3.2). -/
def modeDivisor : GroupMode → Nat
  | .direct => 1
  | .sum => 1
  | .half => 2
  | .third => 3
  | .undefined _ => 1

/-- D = 256 × d × w (R44, Table 3.3). -/
def scaleDivisor (width : Width) (mode : GroupMode) : Int :=
  256 * modeDivisor mode * (match width with | .w16 => 256 | .w24 => 1)

/-- P divided by D, rounded to the nearest integer, ties away from zero (R44). -/
def roundQuotient (p d : Int) : Int :=
  if 0 ≤ p then (p + d / 2) / d else -((-p + d / 2) / d)

/-- The top of a width's signed range (R45). -/
def rangeTop : Width → Int
  | .w16 => 32767
  | .w24 => 8388607

/-- The bottom of a width's signed range (R45). -/
def rangeBottom : Width → Int
  | .w16 => -32768
  | .w24 => -8388608

/-- Saturation to the stored range (R45). -/
def saturate (width : Width) (q : Int) : Int :=
  if rangeTop width < q then rangeTop width
  else if q < rangeBottom width then rangeBottom width
  else q

/-- The stored value of a sum: gain, scale, rounding (R44); saturation follows. -/
def scaled (width : Width) (mode : GroupMode) (gain : Nat) (sum : Int) : Int :=
  roundQuotient (sum * gain) (scaleDivisor width mode)

/-- A rounded value outside the stored range is a Clip (R45). -/
def isClip (width : Width) (q : Int) : Bool := decide (rangeTop width < q ∨ q < rangeBottom width)

/-- The Peak on the 16-bit scale (R48). -/
def peak16 (width : Width) (p : Nat) : Nat :=
  match width with
  | .w16 => min 32767 p
  | .w24 => min 32767 (p / 256)

/-- Order of Source States, best first (R49, R50). -/
def sourceRank : SourceState → Nat
  | .live => 0
  | .concealed => 1
  | .filled => 2
  | .pattern => 3

/-- The worse of two Source States (R49). -/
def worse (x y : SourceState) : SourceState := if sourceRank x < sourceRank y then y else x

/-- The worse of what was seen so far, if anything, and a Source State. -/
def worseOf (seen : Option SourceState) (x : SourceState) : SourceState :=
  match seen with
  | none => x
  | some y => worse y x

/-- The worst Source State of some samples; LIVE for none. -/
def worstSource (xs : List ChannelSample) : SourceState := xs.foldl (fun w x => worse w x.source) .live

/-- Whether Sample Period `j` of the Block Period is the last of a mode's run of periods, so that the output
sample is formed in it (R43). -/
def formsSample (mode : GroupMode) (j : Nat) : Bool :=
  match mode with
  | .direct => true
  | .sum => true
  | .half => j % 2 == 1
  | .third => j % 3 == 2
  | .undefined _ => false

/-- The per-Block state of a Track at the first Sample Period of a Block Period (R42). -/
def freshWork (spec : TrackSpec) : TrackWork := ⟨spec, 0, none, 0, 0, none, []⟩

/-- The sum S of a Track in Sample Period `j`: what waits in the accumulator and this period's samples
(R43). -/
def TrackWork.sum (w : TrackWork) (inputs : List ChannelSample) : Int :=
  w.accSum + (inputs.map ChannelSample.value).sum

/-- The Source State of what waits in the accumulator and this period's samples (R49). -/
def TrackWork.source (w : TrackWork) (inputs : List ChannelSample) : SourceState :=
  worseOf w.accState (worstSource inputs)

/-- One Sample Period of a Track (R43 to R45, R48 to R50): the samples of an unfinished pair or triple wait
in the accumulator; otherwise the output sample is formed, stored and measured. -/
def TrackWork.take (w : TrackWork) (width : Width) (gain j : Nat) (inputs : List ChannelSample) :
    TrackWork :=
  if formsSample w.spec.mode j then
    let q := scaled width w.spec.mode gain (w.sum inputs)
    let v := saturate width q
    { w with
      accSum := 0
      accState := none
      peak := max w.peak v.natAbs
      clips := if isClip width q then w.clips + 1 else w.clips
      worst := some (worseOf w.worst (w.source inputs))
      samples := w.samples ++ [v] }
  else { w with accSum := w.sum inputs, accState := some (w.source inputs) }

/-- The Track clips in this Sample Period (R45). -/
def TrackWork.clipsNow (w : TrackWork) (width : Width) (gain j : Nat) (inputs : List ChannelSample) :
    Bool :=
  formsSample w.spec.mode j && isClip width (scaled width w.spec.mode gain (w.sum inputs))

/-- The sample a Channel delivers in this Sample Period (R1, R11). -/
def State.channel (s : State) (c : Nat) : ChannelSample :=
  if h : c < 32 then (s.links[c / 4]'(by omega)).out[c % 4]'(by omega) else ⟨0, .filled⟩

/-- The samples of a Track's Channels in this Sample Period (R43). -/
def State.inputs (s : State) (spec : TrackSpec) : List ChannelSample := spec.channels.map s.channel

/-- The Gain Code in effect of a Track number (R52). -/
def State.gainOf (s : State) (k : Nat) : Nat := trackAt s.settings.general.gain k 256

/-- One Sample Period of Tracks `k` and up of a Block in progress (R42 to R50). -/
def State.takeTracks (s : State) (width : Width) (j : Nat) : Nat → List TrackWork → List TrackWork
  | _, [] => []
  | k, w :: ws => w.take width (s.gainOf k) j (s.inputs w.spec) :: s.takeTracks width j (k + 1) ws

/-- Which of Tracks `k` and up clip in this Sample Period (R45). -/
def State.clipping (s : State) (width : Width) (j : Nat) : Nat → List TrackWork → List Bool
  | _, [] => []
  | k, w :: ws => w.clipsNow width (s.gainOf k) j (s.inputs w.spec) :: s.clipping width j (k + 1) ws

/-- The Track Processor takes the samples of a Sample Period that ends, in an open Session (R42 to R50): it
forms the output samples, counts the Clips (R46) and sets CLIP at the first of a Block Period (R47). -/
def State.trackPeriod (s : State) : State :=
  match s.inProgress with
  | none => s
  | some b =>
    let j := s.proc.clock - b.time
    let clips := s.clipping b.plan.width j 0 b.tracks
    let tracks := s.takeTracks b.plan.width j 0 b.tracks
    let reported := s.tracks.clipReported
    let s := { s with
      inProgress := some { b with tracks := tracks }
      tracks := { s.tracks with
        clips := Vector.ofFn fun i =>
          if clips.getD i.val false then countTo 65535 s.tracks.clips[i] else s.tracks.clips[i]
        clipReported := reported || clips.any id } }
    if clips.any id && !reported then s.raiseBoth .clip else s

/-- Set up the Block in progress and the per-Block state at the first Sample Period of a Block Period (R42,
R101). -/
def State.setUpBlock (s : State) : State :=
  { s with
    inProgress := some
      { session := s.proc.session
        time := s.proc.clock
        generation := s.plans.generation
        plan := s.settings.general.plan
        tracks := s.settings.general.plan.tracks.map freshWork }
    tracks := { s.tracks with clipReported := false } }

/-- The Peak of a Track at the end of its Block Period (R48). -/
def TrackWork.peak16 (w : TrackWork) (width : Width) : Nat := Machine.peak16 width w.peak

/-- The Peaks handed to the Activity Monitor, in Track order (R51). -/
def BlockInProgress.peaks (b : BlockInProgress) : List Nat :=
  b.tracks.map fun w => w.peak16 b.plan.width

end Sys2Proof.Machine
end

