-- ==== Sys2Proof/Machine/Activity.lean ====
section
/-! DEFINITION. The Activity Monitor and the Floor Arbiter (chapter 4). -/

namespace Sys2Proof.Machine

/-! ### Pending activity and floor settings (R62) -/

/-- A Track number's activity settings once its pending values are taken (R62). -/
def TrackSettings.taking (t : TrackSettings) (c : PendingTrack) : TrackSettings :=
  ⟨c.threshold.getD t.threshold, c.attack.getD t.attack, c.hangover.getD t.hangover,
    c.eligible.getD t.eligible⟩

/-- A new hangover lowers a hang counter that stands above it (R62). -/
def TrackActivity.lowered (x : TrackActivity) (hangover : Option Nat) : TrackActivity :=
  match hangover with
  | none => x
  | some h => { x with hang := min x.hang h }

/-- Some value waits for this Track number (R62). -/
def PendingTrack.waiting (c : PendingTrack) : Bool :=
  c.threshold.isSome || c.attack.isSome || c.hangover.isSome || c.eligible.isSome

/-- Some activity or floor setting waits for the Block Boundary (R62). -/
def State.settingWaiting (s : State) : Bool :=
  s.changes.track.toList.any PendingTrack.waiting || s.changes.margin.isSome ||
    s.changes.challenge.isSome

/-- Every pending activity and floor setting becomes the value in effect (R62, step 1 of R64). -/
def State.applySettings (s : State) : State :=
  let g := s.settings.general
  { s with
    settings := { s.settings with general := { g with
      track := Vector.ofFn fun i => g.track[i].taking s.changes.track[i]
      margin := s.changes.margin.getD g.margin
      challenge := s.changes.challenge.getD g.challenge } }
    activity := Vector.ofFn fun i => s.activity[i].lowered s.changes.track[i].hangover
    changes := { s.changes with
      track := noChanges.track
      margin := none
      challenge := none } }

/-! ### The Activity Monitor (section 4.3) -/

/-- The update of one Track at a Block Boundary by its Peak (R65 to R68, Table 4.3). -/
def TrackActivity.update (x : TrackActivity) (c : TrackSettings) (peak : Nat) : TrackActivity :=
  let loud := decide (c.threshold ≤ peak)
  match x.state with
  | .quiet =>
    if loud then (if c.attack = 1 then ⟨.active, 0, c.hangover⟩ else ⟨.rising, 1, 0⟩) else x
  | .rising =>
    if loud then
      (if c.attack ≤ x.attack + 1 then ⟨.active, 0, c.hangover⟩ else ⟨.rising, x.attack + 1, 0⟩)
    else ⟨.quiet, 0, 0⟩
  | .active =>
    if loud then ⟨.active, 0, c.hangover⟩
    else if x.hang = 0 then ⟨.quiet, 0, 0⟩ else ⟨.hanging, 0, x.hang - 1⟩
  | .hanging =>
    if loud then ⟨.active, 0, c.hangover⟩
    else if x.hang = 0 then ⟨.quiet, 0, 0⟩ else ⟨.hanging, 0, x.hang - 1⟩

/-- The Activity Monitor updates the Tracks of the finished Block's plan, one Peak each; the other Track
numbers keep their state (R63, R64). -/
def State.updateActivity (s : State) (peaks : List Nat) : State :=
  { s with activity := Vector.ofFn fun (i : Fin 32) =>
    match peaks[i.val]? with
    | none => s.activity[i]
    | some p => s.activity[i].update s.settings.general.track[i] p }

/-! ### The Floor Arbiter (section 4.4) -/

/-- The Peak of a Track number in the finished Block. -/
def peakOf (peaks : List Nat) (t : Fin 32) : Nat := peaks.getD t.val 0

/-- The first step of a decision: a holder that is QUIET or not eligible loses the Floor (R70). -/
def State.floorFreed (s : State) : Floor :=
  match s.floor.holder with
  | none => s.floor
  | some t =>
    if s.activity[t].state = .quiet ∨ s.settings.general.track[t].eligible = false then startFloor
    else s.floor

/-- A candidate: an eligible ACTIVE Track of the finished Block's plan other than the holder (R71). -/
def State.isCandidate (s : State) (peaks : List Nat) (holder : Option (Fin 32)) (t : Fin 32) : Bool :=
  decide (t.val < peaks.length ∧ s.activity[t].state = .active ∧ holder ≠ some t) &&
    s.settings.general.track[t].eligible

/-- The Track of highest Peak among some, the first of them among equals (R71, R72). -/
def loudest (peaks : List Nat) : List (Fin 32) → Option (Fin 32)
  | [] => none
  | t :: ts =>
    match loudest peaks ts with
    | none => some t
    | some u => if peakOf peaks u ≤ peakOf peaks t then some t else some u

/-- The leading candidate (R71, R72). -/
def State.leader (s : State) (peaks : List Nat) (holder : Option (Fin 32)) : Option (Fin 32) :=
  loudest peaks ((List.finRange 32).filter (s.isCandidate peaks holder))

/-- The challenge of a candidate that leads the holder by the margin (R72): the challenger takes the
Floor when its count reaches K. -/
def State.challenged (s : State) (f : Floor) (holder challenger : Fin 32) : Floor :=
  let n := if f.challenger = some challenger then f.count + 1 else 1
  if s.settings.general.challenge ≤ n then ⟨some challenger, none, 0⟩
  else ⟨some holder, some challenger, n⟩

/-- The Floor Arbiter's decision on a finished Block (R69 to R72). -/
def State.floorDecision (s : State) (peaks : List Nat) : Floor :=
  let f := s.floorFreed
  match f.holder, s.leader peaks f.holder with
  | none, none => f
  | none, some t => ⟨some t, none, 0⟩
  | some h, none => ⟨some h, none, 0⟩
  | some h, some c =>
    if (peakOf peaks c : Int) - peakOf peaks h < s.settings.general.margin then ⟨some h, none, 0⟩
    else s.challenged f h c

/-- The decision takes effect, and a change of holder sets FLOOR on both ports (R73). -/
def State.decideFloor (s : State) (peaks : List Nat) : State :=
  let f := s.floorDecision peaks
  let t := { s with floor := f }
  if f.holder = s.floor.holder then t else t.raiseBoth .floor

end Sys2Proof.Machine
end

