-- ==== Sys2Proof/Machine/Proceedings.lean ====
section
/-! DEFINITION. The Proceedings Controller: requests, immediate SIDEBAR, the Bench Lines, opening and closing
a Session (chapter 5). -/

namespace Sys2Proof.Machine

/-- A CLOSE is pending (R84, R88). -/
def Proceedings.closePending (x : Proceedings) : Bool :=
  match x.target with
  | some (.close, _) => true
  | some (.onRecord, _) => false
  | some (.offRecord, _) => false
  | some (.sidebar, _) => false
  | none => false

/-- Set or withdraw the pending target. -/
def State.setTarget (s : State) (t : Option (Target × Party)) : State :=
  s.setProc { s.proc with target := t }

/-- The three general rules of R84 for a request naming a state: `current` says that it names the state
now in force. -/
def State.general (s : State) (current : Bool) (target : Target) (who : Party) : Result × State :=
  if current then
    if s.proc.target = none then (.already, s) else (.ok, s.setTarget none)
  else if s.proc.target.map Prod.fst = some target then (.already, s)
  else (.ok, s.setTarget (some (target, who)))

/-- SIDEBAR is entered at once from ON_RECORD: the Block in Progress is reclassed, with a STATE Mark and the
STATE event (R87, R93, R97). -/
def State.enterSidebar (s : State) (who : Party) (target : Option (Target × Party)) : State :=
  let s := s.setProc { s.proc with state := .sidebar, target := target, restricted := true }
  State.raiseBoth
    (s.requestMark ⟨.state, who, s.proc.clock, (stateCode .sidebar).setWidth 16, none, false, false⟩)
    .state

/-- A request for the record to go on (R85). -/
def State.requestOn (s : State) (who : Party) : Result × State :=
  match s.proc.state with
  | .closed => (.state, s)
  | .offRecord => s.general false .onRecord who
  | .onRecord => s.general true .onRecord who
  | .sidebar => if s.proc.lines.privacy.level then (.benchHeld, s) else s.general false .onRecord who

/-- A request for the record to go off (R86). -/
def State.requestOff (s : State) (who : Party) : Result × State :=
  match s.proc.state with
  | .closed => (.state, s)
  | .offRecord => s.general true .offRecord who
  | .onRecord => s.general false .offRecord who
  | .sidebar => s.general false .offRecord who

/-- A request for a sidebar by SET_STATE (R87). -/
def State.requestSidebar (s : State) (who : Party) : Result × State :=
  match s.proc.state with
  | .closed => (.state, s)
  | .offRecord => s.general false .sidebar who
  | .onRecord => (.ok, s.enterSidebar who none)
  | .sidebar => s.general true .sidebar who

/-- A request for ON_RECORD, OFF_RECORD or SIDEBAR: refused with STATE in CLOSED and while CLOSE is pending
(R84, R89). -/
def State.request (s : State) (wanted : ProceedingsState) (who : Party) : Result × State :=
  if s.proc.closePending then (.state, s)
  else
    match wanted with
    | .closed => (.range, s)
    | .offRecord => s.requestOff who
    | .onRecord => s.requestOn who
    | .sidebar => s.requestSidebar who

/-- The state a SET_STATE parameter names (Table 12.2). -/
def requestOfCode (c : Byte) : Option ProceedingsState :=
  match c.toNat with
  | 1 => some .onRecord
  | 2 => some .offRecord
  | 3 => some .sidebar
  | _ => none

/-- SET_STATE (R89). -/
def State.setState (s : State) (p : Port) (code : Byte) : Result × State :=
  match requestOfCode code with
  | none => (.range, s)
  | some wanted => s.request wanted (partyOf p)

/-- CLOSE_SESSION (R88). -/
def State.requestClose (s : State) (p : Port) : Result × State :=
  if !s.sessionOpen then (.state, s)
  else if s.proc.closePending then (.already, s)
  else (.ok, s.setTarget (some (.close, partyOf p)))

/-! ### The Bench Lines (section 5.7) -/

/-- A Bench Line after a Sample Period with this level (R95). That the first-edge time keeps its value when a change
is discarded, and until the next one begins, is the model's choice (DESIGN CHOICE, log entry 33). -/
def BenchLine.sample (x : BenchLine) (present : Bool) (clock : Nat) (closed : Bool) : BenchLine :=
  if present = x.level then { x with count := 0 }
  else if x.count = 0 then { x with count := 1, firstEdge := clock, early := closed }
  else { x with count := countTo 960 x.count }

/-- Every Bench Line is sampled (R95). -/
def State.sampleBench (s : State) (levels : BenchLevels) : State :=
  let x := s.proc.lines
  let take := fun (l : BenchLine) b => l.sample b s.proc.clock (!s.sessionOpen)
  s.setProc { s.proc with lines :=
    { onRec := take x.onRec levels.onRec
      offRec := take x.offRec levels.offRec
      privacy := take x.privacy levels.privacy
      mark := take x.mark levels.mark
      key := take x.key levels.key } }

/-- The time a Mark made from a line's rise carries (R95). -/
def BenchLine.edgeTime (x : BenchLine) : Nat := if x.early then 0 else x.firstEdge

/-- An accepted rise of PRIVACY (R97). -/
def State.privacyRise (s : State) : State :=
  match s.proc.state with
  | .onRecord => s.enterSidebar .bench (if s.proc.closePending then s.proc.target else none)
  | .closed => s
  | .offRecord => s
  | .sidebar => s

/-- An accepted fall of PRIVACY (R97). -/
def State.privacyFall (s : State) : State :=
  match s.proc.state with
  | .sidebar => if s.proc.target = none then s.setTarget (some (.onRecord, .bench)) else s
  | .closed => s
  | .offRecord => s
  | .onRecord => s

/-- An accepted rise of MARK (R98). -/
def State.markRise (s : State) (x : BenchLine) : State :=
  s.requestMark ⟨.bench, .bench, x.edgeTime, 0, none, false, x.early⟩

/-- What an accepted change of a line to a level does (R96 to R98). KEY's level is only examined (R191). -/
def State.lineChanged (s : State) (l : Line) (level : Bool) (x : BenchLine) : State :=
  match l, level with
  | .onRec, true => (s.request .onRecord .bench).2
  | .offRec, true => (s.request .offRecord .bench).2
  | .privacy, true => s.privacyRise
  | .privacy, false => s.privacyFall
  | .mark, true => s.markRise x
  | .onRec, false => s
  | .offRec, false => s
  | .mark, false => s
  | .key, _ => s

/-- A line's change has reached its 960th consecutive Sample Period (R95). -/
def State.acceptDue (s : State) (l : Line) : Bool := decide ((s.proc.lines.get l).count = 960)

/-- The acceptance of a line's change (R95); its first-edge time stays (DESIGN CHOICE, log entry 33). -/
def State.acceptLine (s : State) (l : Line) : State :=
  let x := s.proc.lines.get l
  let t := s.setProc { s.proc with lines := s.proc.lines.set l { x with level := !x.level, count := 0 } }
  t.lineChanged l (!x.level) x

/-! ### Opening a Session (section 5.3) -/

/-- An attached BINDING Reader has a Block or a Mark still to read (R81). -/
def State.readerUndrained (s : State) (x : Reader) : Bool :=
  x.binds && (decide (x.avail s.ring.next > 0) || decide (x.mark < s.marks.next))

/-- The record of the last Session is not drained (R81). -/
def State.undrained (s : State) : Bool :=
  s.readerUndrained s.readers.a || s.readerUndrained s.readers.b || s.ring.gap.isSome

/-- A transfer whose record is emptied by an opening; an empty reply completes as begun (R83). -/
def Transfer.lostToOpening (t : Transfer) : Transfer :=
  match t.delivery with
  | .emptyReply => t
  | .block _ => { t with overtaken := some (t.overtaken.getD t.edges) }
  | .marks _ _ => { t with overtaken := some (t.overtaken.getD t.edges) }

/-- A Reader at the opening of a Session: no event results (R83, R148). -/
def Reader.opened (x : Reader) : Reader :=
  if x.attached then
    let x := { x with
      state := .following
      read := 0
      release := 0
      mark := 0
      skipped := 0
      missed := 0
      flight := x.flight.map Transfer.lostToOpening }
    { x with flags := x.flagsAt 0 }
  else x

/-- A line whose change began before the opening (R95). -/
def BenchLine.beforeOpening (x : BenchLine) : BenchLine :=
  { x with early := x.early || decide (x.count > 0) }

/-- The session number that follows another (R80). -/
def nextSession (n : Nat) : Nat := if n ≥ 65535 then 1 else n + 1

/-- What an accepted OPEN_SESSION does before its Mark and event (R82, R83). -/
def State.cleared (s : State) (verify : Bool) : State :=
  let x := s.proc.lines
  { s with
    stage := .idle
    proc :=
      { state := .offRecord
        target := none
        session := nextSession s.proc.session
        verify := verify
        clock := 0
        periods := 0
        restricted := false
        recording := false
        opening := s.inPeriod
        lines := ⟨x.onRec.beforeOpening, x.offRec.beforeOpening, x.privacy.beforeOpening,
          x.mark.beforeOpening, x.key.beforeOpening⟩ }
    ring := startRing
    marks := startMarks
    readers := s.readers.map Reader.opened
    tracks := startTracks
    inProgress := none
    activity := Vector.replicate 32 startActivity
    floor := startFloor
    changes := { noChanges with source := s.changes.source } }

/-- An accepted OPEN_SESSION by a port (R82, R83). -/
def State.opened (s : State) (p : Port) (verify : Bool) : State :=
  let t := s.cleared verify
  State.raiseBoth
    (t.requestMark ⟨.sessionOpen, partyOf p, 0, BitVec.ofNat 16 t.proc.session, none, false, false⟩) .state

/-- OPEN_SESSION, its tests in order (R81, R82). -/
def State.openSession (s : State) (p : Port) (flag : Byte) : Result × State :=
  if flag.toNat > 1 then (.range, s)
  else if s.sessionOpen then (.state, s)
  else if s.undrained then (.undrained, s)
  else (.ok, s.opened p (decide (flag.toNat = 1)))

/-! ### Closing a Session (R91, R92) -/

/-- The Block Period count of the session length limit (R92). -/
def sessionLimit : Nat := 4294967295

/-- Reason and origin of the SESSION_CLOSE Mark: COMMAND with the recorded origin when CLOSE is pending,
else LIMIT with DEVICE (R91, R92, R200). -/
def State.closeRequest (s : State) : MarkRequest :=
  match s.proc.target with
  | some (.close, who) => ⟨.sessionClose, who, s.proc.clock, 0, none, false, false⟩
  | some (.onRecord, _) => deviceMark .sessionClose s.proc.clock 1
  | some (.offRecord, _) => deviceMark .sessionClose s.proc.clock 1
  | some (.sidebar, _) => deviceMark .sessionClose s.proc.clock 1
  | none => deviceMark .sessionClose s.proc.clock 1

/-- The Session closes at its Block Boundary (R91, R92). -/
def State.closeNow (s : State) : State :=
  let q := s.closeRequest
  let t := s.setProc { s.proc with
    state := .closed, target := none, restricted := false, recording := false }
  (t.insertMark q).raiseBoth .state

end Sys2Proof.Machine
end

