-- ==== Sys2Proof/Machine/Boundary.lean ====
section
/-! DEFINITION. The passing of Sample Periods and the Block Boundary (R16, R64, R79, R90 to R93; log entries
6, 7 and 10). -/

namespace Sys2Proof.Machine

/-! ### The end of a Sample Period -/

/-- The Bench Lines in the order of their settings (section 12.5). -/
def allLines : List Line := [.onRec, .offRec, .privacy, .mark, .key]

/-- A line whose change is due is accepted (R95). -/
def State.settleLine (s : State) (l : Line) : State := if s.acceptDue l then s.acceptLine l else s

/-- Every change still due at the end of the Sample Period is accepted (R95). -/
def State.settleBench (s : State) : State := allLines.foldl State.settleLine s

/-- The house clock returns: the unit is in HOUSE, with its event and, in an open Session, its Mark (R19,
R21). The Mark is the caller's. -/
def State.houseReturns (s : State) : State := s.setClockState .house

/-- A return that is due in CLOSED comes in the Sample Period itself (R19). -/
def State.settleReturn (s : State) : State :=
  if !s.sessionOpen && s.returnDue then s.houseReturns else s

/-- A loss that is due comes in the third edgeless Sample Period (R18). -/
def State.settleLoss (s : State) : State := if s.lossDue then s.loseHouse else s

/-- The Proceedings Clock runs in this Sample Period: a Session is open and was not opened in it (R79). -/
def State.clockRuns (s : State) : Bool := s.sessionOpen && !s.proc.opening

/-- The Track Processor takes the samples and the Proceedings Clock adds one (R43, R79). -/
def State.countPeriod (s : State) : State :=
  if s.clockRuns then
    let t := s.trackPeriod
    t.setProc { t.proc with clock := t.proc.clock + 1 }
  else s

/-- The Sample Period in progress ends (R1, R11, R17, R18, R19, R43, R79, R95). -/
def State.endPeriod (s : State) : State :=
  let s := s.missLinks.settleBench.examineHouse.settleLoss.settleReturn.countPeriod
  { s with
    inPeriod := false
    links := Vector.ofFn fun i => { s.links[i] with heard := false } }

/-! ### The start of a Sample Period -/

/-- The first Sample Period of a Block Period sets up the Block in Progress (R42, R101). -/
def State.setUpIfFirst (s : State) : State :=
  if s.sessionOpen && decide (s.proc.clock % 480 = 0) then s.setUpBlock else s

/-- The next Sample Period starts: the link frame sync, its house clock edge, to be counted at its end, and the
Bench Lines (R16, R17, R95). -/
def State.startPeriod (s : State) (edge : Bool) (levels : BenchLevels) : State :=
  let s := { s with
    inPeriod := true
    frameSyncs := s.frameSyncs + 1
    proc := { s.proc with opening := false }
    clockUnit := { s.clockUnit with edge := some edge } }
  s.setUpIfFirst.sampleBench levels

/-! ### The Block Boundary -/

/-- The Sample Period in progress is the last of a Block Period (R79). -/
def State.boundaryDue (s : State) : Bool :=
  s.live && s.inPeriod && decide (s.stage = .idle) && s.clockRuns && decide (s.proc.clock % 480 = 479)

/-- The 480th Sample Period ends and pending activity and floor settings are applied (R62, R64). -/
def State.beginBoundary (s : State) : State := { s.endPeriod.applySettings with stage := .begun }

/-- Class of the finished Block (R93, Table 5.4). -/
def State.finishedClass (s : State) : BlockClass :=
  if s.proc.verify then .test else if s.proc.restricted then .restricted else .opened

/-- The entry of a Track of the finished Block (R102). -/
def State.trackEntry (s : State) (width : Width) (k : Nat) (w : TrackWork) : TrackEntry where
  source := w.worst.getD .live
  activity := (trackAt s.activity k startActivity).state
  clips := w.clips
  peak := w.peak16 width

/-- The entries of Tracks `k` and up (R102). -/
def State.entriesFrom (s : State) (width : Width) : Nat → List TrackWork → List TrackEntry
  | _, [] => []
  | k, w :: ws => s.trackEntry width k w :: s.entriesFrom width (k + 1) ws

/-- The finished Block, complete but for its sequence (R102). -/
def State.finishedBlock (s : State) (b : BlockInProgress) : Block where
  kind := .audio
  cls := s.finishedClass
  width := b.plan.width
  trackCount := b.plan.trackCount
  sequence := s.ring.next
  session := b.session
  generation := b.generation
  time := b.time
  covered := 1
  bodyLength := b.plan.bodyLength
  holder := s.floor.holder
  spanEnd := b.time + 479
  entries := s.entriesFrom b.plan.width 0 b.tracks
  body := b.tracks.map TrackWork.samples

/-- The finished Block is dealt with: the last-block record, the restricted-clip indication and the ring
(R51, R56, R57, R102, R111 to R114). -/
def State.dealWith (s : State) (b : BlockInProgress) : State :=
  let x := s.finishedBlock b
  let t := { s with
    inProgress := none
    tracks := { s.tracks with
      restrictedClip := s.tracks.restrictedClip || decide (x.cls = BlockClass.restricted)
      last := some ⟨s.proc.periods, x.cls, x.holder, x.entries⟩ } }
  t.ringAtBoundary s.proc.recording x

/-- The Session closes at this boundary, the Block Period count being that of the boundary (R91, R92). -/
def State.closesHere (s : State) : Bool := s.proc.closePending || decide (s.proc.periods ≥ sessionLimit)

/-- The Proceedings State after the boundary (R90 to R92). -/
def State.nextState (s : State) : ProceedingsState :=
  if s.closesHere then .closed
  else
    match s.proc.target with
    | none => s.proc.state
    | some (.onRecord, _) => if s.proc.lines.privacy.level then .sidebar else .onRecord
    | some (.offRecord, _) => .offRecord
    | some (.sidebar, _) => .sidebar
    | some (.close, _) => .closed

/-- ON_RECORD and SIDEBAR are the Recording States (R78). -/
def ProceedingsState.records : ProceedingsState → Bool
  | .closed => false
  | .offRecord => false
  | .onRecord => true
  | .sidebar => true

/-- The Block Period count adds one and the state after the boundary is fixed, with what the Block Period
that begins there takes from it (R79, R93). -/
def State.fixNext (s : State) : State :=
  let s := s.setProc { s.proc with periods := s.proc.periods + 1 }
  let next := s.nextState
  let s := s.setProc { s.proc with restricted := decide (next = .sidebar), recording := next.records }
  { s with stage := .turned next none }

/-- The FLOOR Mark of a boundary (R73, R74). -/
def floorMark (time : Nat) (holder : Option (Fin 32)) (restricted : Bool) : MarkRequest :=
  { deviceMark .floor time (floorArg holder) with askRestricted := restricted }

/-- A FLOOR Mark is asked for unless the record is off or closed after the boundary (R73). -/
def ProceedingsState.marksFloor : ProceedingsState → Bool
  | .closed => false
  | .offRecord => false
  | .onRecord => true
  | .sidebar => true

/-- The waiting FLOOR Mark is inserted (R73, R152). -/
def State.flushFloor (s : State) : State :=
  match s.stage with
  | .turned next (some (_, holder, restricted)) =>
    State.requestMark { s with stage := .turned next none } (floorMark s.proc.clock holder restricted)
  | .turned _ none => s
  | .idle => s
  | .begun => s

/-- The FLOOR Mark of a changed holder is asked for, to be inserted after `after` other Marks of the
boundary (R73, R74, R152; log entry 10). -/
def State.askFloor (s : State) (before : Option (Fin 32)) (cls : BlockClass) (after : Nat) : State :=
  match s.stage with
  | .turned next _ =>
    if before ≠ s.floor.holder ∧ next.marksFloor then
      let restricted := decide (cls = BlockClass.restricted) || decide (next = ProceedingsState.sidebar)
      let s := { s with stage := .turned next (some (after, s.floor.holder, restricted)) }
      if after = 0 then s.flushFloor else s
    else s
  | .idle => s
  | .begun => s

/-- The Peaks handed over at the boundary (R51). -/
def State.peaks (s : State) : List Nat :=
  match s.inProgress with
  | none => []
  | some b => b.peaks

/-- The finished Block is judged for activity and Floor, classified, completed and stored or let go, and the
state after the boundary is fixed (R64, R73, R79, R90, R93, R102). -/
def State.turn (s : State) (floorAfter : Nat) : State :=
  let cls := s.finishedClass
  let t := (s.updateActivity s.peaks).decideFloor s.peaks
  let t := match s.inProgress with
    | none => t
    | some b => t.dealWith b
  t.fixNext.askFloor s.floor.holder cls floorAfter

/-- A Mark of the boundary other than the FLOOR Mark is inserted, and the FLOOR Mark follows when its turn
has come (R152; log entry 10). -/
def State.boundaryMark (s : State) (q : MarkRequest) : State :=
  let t := s.requestMark q
  match t.stage with
  | .turned next (some (k, holder, restricted)) =>
    let u := { t with stage := .turned next (some (k - 1, holder, restricted)) }
    if k ≤ 1 then u.flushFloor else u
  | .turned _ none => t
  | .idle => t
  | .begun => t

/-- The finished Block has been dealt with, and the takings of the boundary are open. -/
def State.turned (s : State) : Bool :=
  match s.stage with
  | .idle => false
  | .begun => false
  | .turned _ _ => true

/-- The Session is still to close at this boundary (R91, R92). -/
def State.closeDue (s : State) : Bool := s.turned && s.sessionOpen && s.closesHere

/-- The closing, if any, has been made: what follows it at the boundary may come (R37, R54). -/
def State.pastClose (s : State) : Bool := s.turned && !s.closeDue

/-- A pending target is to be taken (R90). -/
def State.targetDue (s : State) : Bool := s.pastClose && s.proc.target.isSome

/-- Who caused what a pending target brings (R84). -/
def State.targetOrigin (s : State) : Party :=
  match s.proc.target with
  | some (_, who) => who
  | none => .device

/-- The pending target is taken (R90). -/
def State.takeTarget (s : State) : State :=
  let next := s.stateForMarks
  let who := s.targetOrigin
  let t := s.setTarget none
  if next = s.proc.state then t
  else
    State.raiseBoth
      ((t.setProc { t.proc with state := next }).boundaryMark
        ⟨.state, who, s.proc.clock, (stateCode next).setWidth 16, none, false, false⟩) .state

/-- The Armed Plan is to become Active (R37). -/
def State.planDue (s : State) : Bool := s.pastClose && s.plans.armed.isSome

/-- The Armed Plan becomes Active at the boundary, with its PLAN Mark while a Session is open (R37, R38). -/
def State.takeArmed (s : State) : State :=
  match s.plans.armed with
  | none => s
  | some plan =>
    let t := s.activate plan
    t.boundaryMark (deviceMark .plan t.proc.clock t.plans.generation)

/-- Some Gain Code waits (R54). -/
def State.gainWaiting (s : State) : Bool := s.changes.gain.toList.any Option.isSome

/-- Pending Gain Codes are to be taken (R54). -/
def State.gainDue (s : State) : Bool := s.pastClose && s.gainWaiting

/-- The argument of a LEVEL Mark (R200). -/
def levelArg (k : Fin 32) (gain : Nat) : BitVec 16 := BitVec.ofNat 6 k.val ++ BitVec.ofNat 10 gain

/-- The pending Gain Code of one Track number is taken, with its LEVEL Mark while a Session is open (R54,
R55). -/
def State.takeGain (s : State) (k : Fin 32) : State :=
  match s.changes.gain[k] with
  | none => s
  | some v =>
    let g := s.settings.general
    let t := { s with
      settings := { s.settings with general := { g with gain := g.gain.set k v } }
      changes := { s.changes with gain := s.changes.gain.set k none } }
    t.boundaryMark (deviceMark .level t.proc.clock (levelArg k v))

/-- Every pending Gain Code is taken, the LEVEL Marks of the named Track numbers first and the rest in
ascending order (R54, R55). -/
def State.takeGains (s : State) (order : List (Fin 32)) : State :=
  (order ++ List.finRange 32).foldl State.takeGain s

/-- A pending clock source setting is to take effect (R20). -/
def State.sourceDue (s : State) : Bool := s.pastClose && s.changes.source.isSome

/-- A change of the clock unit at the boundary, with a CLOCK Mark where it changes the source in use (R21). -/
def State.markSource (s : State) (before : ClockSource) : State :=
  if s.sourceInUse = before then s
  else s.boundaryMark (clockMark s.proc.clock s.sourceInUse)

/-- The pending clock source setting takes effect (R20, R21). -/
def State.takeSource (s : State) : State :=
  match s.changes.source with
  | none => s
  | some x =>
    State.markSource
      (State.applySource { s with changes := { s.changes with source := none } } x) s.sourceInUse

/-- The house clock is to return at this boundary (R19). -/
def State.boundaryReturnDue (s : State) : Bool := s.pastClose && s.returnDue

/-- The house clock returns at the boundary (R19, R21). -/
def State.takeReturn (s : State) : State := s.houseReturns.markSource s.sourceInUse

/-- Do one thing of the boundary if it is due. -/
def State.ifDue (s : State) (due : State → Bool) (act : State → State) : State :=
  if due s then act s else s

/-- What is left of a boundary whose finished Block is dealt with, in the order the model takes when nobody
gives one (log entries 7, 10 and 19). -/
def State.finishTurned (s : State) : State :=
  let s := s.ifDue State.closeDue State.closeNow
  let s := s.ifDue State.targetDue State.takeTarget
  let s := s.ifDue State.planDue State.takeArmed
  let s := s.ifDue State.gainDue (fun s => s.takeGains [])
  let s := s.ifDue State.sourceDue State.takeSource
  let s := s.ifDue State.boundaryReturnDue State.takeReturn
  { s.flushFloor with stage := .idle }

/-- A boundary that has begun is finished (log entry 7). -/
def State.finishBoundary (s : State) : State :=
  match s.stage with
  | .idle => s
  | .begun => (s.turn 0).finishTurned
  | .turned _ _ => s.finishTurned

/-- A due boundary is begun. -/
def State.reachBegun (s : State) : State := if s.boundaryDue then s.beginBoundary else s

/-- A due or begun boundary is brought to where its finished Block is dealt with. -/
def State.reachTurned (s : State) (floorAfter : Nat) : State :=
  let t := s.reachBegun
  match t.stage with
  | .begun => t.turn floorAfter
  | .idle => t
  | .turned _ _ => t

/-- Take one thing of a boundary, bringing a due boundary about first; no effect where it is not due (log
entries 4 and 7). -/
def State.atBoundary (s : State) (due : State → Bool) (act : State → State) : State :=
  if s.live && due (s.reachTurned 0) then act (s.reachTurned 0) else s

/-- One Sample Period ends, with all that is due at its end, and the next starts (R16, R79). -/
def State.samplePeriod (s : State) (edge : Bool) (levels : BenchLevels) : State :=
  let s := if s.boundaryDue then s.beginBoundary else if s.inPeriod then s.endPeriod else s
  s.finishBoundary.startPeriod edge levels

end Sys2Proof.Machine
end

