-- ==== Sys2Proof/Machine/Settings.lean ====
section
/-! DEFINITION. The Settings Store: identifiers, reading, writing, Guard Modes, Gain Codes, storing the Image,
start-up and the resets (chapter 11, R53, R54, R100). -/

namespace Sys2Proof.Machine

/-! ### Identifiers (R189, section 12.5) -/

/-- What a setting identifier names. -/
inductive SettingName where
  | threshold (track : Fin 32)
  | attack (track : Fin 32)
  | hangover (track : Fin 32)
  | eligible (track : Fin 32)
  | margin
  | challenge
  | fill
  | source
  | linkEnable (link : Fin 8)
  | latency (port : Port)
  | lanes (port : Port)
  | retention (port : Port)
  | access (port : Port)
  | guard
  | bench (line : Line)
  deriving DecidableEq, Repr

/-- A Track number as an index. -/
def trackIndex (n : Nat) : Option (Fin 32) := if h : n < 32 then some ⟨n, h⟩ else none

/-- A link number as an index. -/
def linkIndex (n : Nat) : Option (Fin 8) := if h : n < 8 then some ⟨n, h⟩ else none

/-- A port as an index. -/
def portIndex : Nat → Option Port
  | 0 => some .a
  | 1 => some .b
  | _ => none

/-- A Bench Line as an index. -/
def lineIndex : Nat → Option Line
  | 0 => some .onRec
  | 1 => some .offRec
  | 2 => some .privacy
  | 3 => some .mark
  | 4 => some .key
  | _ => none

/-- The floor setting of an index: M and K (section 12.5). -/
def floorIndex : Nat → Option SettingName
  | 0 => some .margin
  | 1 => some .challenge
  | _ => none

/-- A setting without an index has index 00H (section 12.5). -/
def lone (x : SettingName) : Nat → Option SettingName
  | 0 => some x
  | _ => none

/-- The setting that a high byte and an index name, none for RANGE (R189, section 12.5). -/
def settingAt (high index : Nat) : Option SettingName :=
  match high with
  | 0x01 => (trackIndex index).map .threshold
  | 0x02 => (trackIndex index).map .attack
  | 0x03 => (trackIndex index).map .hangover
  | 0x04 => (trackIndex index).map .eligible
  | 0x05 => floorIndex index
  | 0x06 => lone .fill index
  | 0x07 => lone .source index
  | 0x08 => (linkIndex index).map .linkEnable
  | 0x09 => (portIndex index).map .latency
  | 0x0A => (portIndex index).map .lanes
  | 0x0B => (portIndex index).map .retention
  | 0x0C => (portIndex index).map .access
  | 0x0D => lone .guard index
  | 0x0E => (lineIndex index).map .bench
  | _ => none

/-- The setting that a 16-bit identifier names (R189). -/
def settingOf (id : Nat) : Option SettingName := settingAt (id / 256) (id % 256)

/-! ### Reading (R189) -/

/-- The value of a read latency. -/
def latencyValue : ReadLatency → Nat
  | .four => 4
  | .eight => 8

/-- The value of a lane width. -/
def lanesValue : LaneWidth → Nat
  | .one => 1
  | .four => 4

/-- 01H for set and YES, 00H for clear and NO (R198, section 12.5). -/
def boolValue (b : Bool) : Nat := if b then 1 else 0

/-- The value that READ_SETTING returns: the pending value while one waits, else the value in effect
(R189, R62, R20). The fill value is signed. -/
def State.settingValue (s : State) : SettingName → Int
  | .threshold k => (s.changes.track[k].threshold.getD s.settings.general.track[k].threshold : Nat)
  | .attack k => (s.changes.track[k].attack.getD s.settings.general.track[k].attack : Nat)
  | .hangover k => (s.changes.track[k].hangover.getD s.settings.general.track[k].hangover : Nat)
  | .eligible k =>
    boolValue (s.changes.track[k].eligible.getD s.settings.general.track[k].eligible)
  | .margin => (s.changes.margin.getD s.settings.general.margin : Nat)
  | .challenge => (s.changes.challenge.getD s.settings.general.challenge : Nat)
  | .fill => s.settings.general.fill
  | .source => (clockSourceCode (s.changes.source.getD s.settings.general.source)).toNat
  | .linkEnable n => boolValue s.settings.general.linkEnable[n]
  | .latency p => latencyValue (s.settings.general.timing.get p).latency
  | .lanes p => lanesValue (s.settings.general.timing.get p).lanes
  | .retention p => (retentionCode (some (s.settings.guarded.retention.get p))).toNat
  | .access p => (accessCode (s.settings.guarded.access.get p)).toNat
  | .guard => (guardCode s.settings.guarded.mode).toNat
  | .bench l => boolValue (s.proc.lines.get l).level

/-! ### Writing (R190) -/

/-- A value of 00H or 01H as a choice. -/
def boolOf : Nat → Option Bool
  | 0 => some false
  | 1 => some true
  | _ => none

/-- The clock source of a value. -/
def sourceOf : Nat → Option ClockSource
  | 0 => some .internal
  | 1 => some .house
  | _ => none

/-- The read latency of a value. -/
def latencyOf : Nat → Option ReadLatency
  | 4 => some .four
  | 8 => some .eight
  | _ => none

/-- The lane width of a value. -/
def lanesOf : Nat → Option LaneWidth
  | 1 => some .one
  | 4 => some .four
  | _ => none

/-- The Retention Class of a value. -/
def retentionOf : Nat → Option Retention
  | 1 => some .binding
  | 2 => some .yielding
  | _ => none

/-- The Restricted Access of a value. -/
def accessOf : Nat → Option Access
  | 1 => some .granted
  | 2 => some .denied
  | _ => none

/-- The Guard Mode of a value. -/
def guardOf : Nat → Option GuardMode
  | 0 => some .opened
  | 1 => some .keyed
  | 2 => some .sessionLock
  | 3 => some .fixed
  | _ => none

/-- A value within a range. -/
def within (low high n : Nat) : Option Nat := if low ≤ n ∧ n ≤ high then some n else none

/-- A fill value within its 24-bit range (R12). -/
def fillOf (n : Nat) : Option Int :=
  if -8388608 ≤ signed32 n ∧ signed32 n ≤ 8388607 then some (signed32 n) else none

/-- Replace the unguarded settings. -/
def State.setGeneral (s : State) (g : GeneralSettings) : State :=
  { s with settings := { s.settings with general := g } }

/-- Replace the guarded settings. -/
def State.setGuarded (s : State) (g : GuardedSettings) : State :=
  { s with settings := { s.settings with guarded := g } }

/-- Change the activity settings in effect of one Track number. -/
def State.updateTrack (s : State) (k : Fin 32) (f : TrackSettings → TrackSettings) : State :=
  s.setGeneral { s.settings.general with
    track := s.settings.general.track.set k (f s.settings.general.track[k]) }

/-- Change the pending activity settings of one Track number. -/
def State.updatePending (s : State) (k : Fin 32) (f : PendingTrack → PendingTrack) : State :=
  { s with changes := { s.changes with track := s.changes.track.set k (f s.changes.track[k]) } }

/-- A written threshold: pending in an open Session, else in effect (R62). -/
def State.writeThreshold (s : State) (k : Fin 32) (v : Nat) : State :=
  if s.sessionOpen then s.updatePending k fun x => { x with threshold := some v }
  else s.updateTrack k fun x => { x with threshold := v }

/-- A written attack count (R62). -/
def State.writeAttack (s : State) (k : Fin 32) (v : Nat) : State :=
  if s.sessionOpen then s.updatePending k fun x => { x with attack := some v }
  else s.updateTrack k fun x => { x with attack := v }

/-- A written hangover; one that takes effect lowers a hang counter above it (R62). -/
def State.writeHangover (s : State) (k : Fin 32) (v : Nat) : State :=
  if s.sessionOpen then s.updatePending k fun x => { x with hangover := some v }
  else
    let s := s.updateTrack k fun x => { x with hangover := v }
    { s with activity := s.activity.set k (s.activity[k].lowered (some v)) }

/-- A written floor eligibility; NO written in CLOSED for the holder frees the Floor (R62). -/
def State.writeEligible (s : State) (k : Fin 32) (v : Bool) : State :=
  if s.sessionOpen then s.updatePending k fun x => { x with eligible := some v }
  else
    let s := s.updateTrack k fun x => { x with eligible := v }
    if v = false ∧ s.floor.holder = some k then State.raiseBoth { s with floor := startFloor } .floor
    else s

/-- A written margin (R62). -/
def State.writeMargin (s : State) (v : Nat) : State :=
  if s.sessionOpen then { s with changes := { s.changes with margin := some v } }
  else s.setGeneral { s.settings.general with margin := v }

/-- A written challenge count (R62). -/
def State.writeChallenge (s : State) (v : Nat) : State :=
  if s.sessionOpen then { s with changes := { s.changes with challenge := some v } }
  else s.setGeneral { s.settings.general with challenge := v }

/-- A written clock source: in effect at once in CLOSED; in an open Session it waits, and a write of the
value in effect cancels what waits (R20, R21). -/
def State.writeSource (s : State) (x : ClockSource) : State :=
  if s.sessionOpen then
    { s with changes := { s.changes with
      source := if x = s.settings.general.source then none else some x } }
  else State.applySource { s with changes := { s.changes with source := none } } x

/-- Change the port settings of a port (R168, R174). -/
def State.updateTiming (s : State) (p : Port) (f : PortTiming → PortTiming) : State :=
  s.setGeneral { s.settings.general with timing := s.settings.general.timing.update p f }

/-- A write of a value to a setting, none where the value is outside the setting's range or the setting is
read-only (R190, Table 11.1). -/
def State.written (s : State) (x : SettingName) (v : Nat) : Option State :=
  match x with
  | .threshold k => (within 0 32767 v).map (s.writeThreshold k)
  | .attack k => (within 1 15 v).map (s.writeAttack k)
  | .hangover k => (within 0 255 v).map (s.writeHangover k)
  | .eligible k => (boolOf v).map (s.writeEligible k)
  | .margin => (within 0 32767 v).map s.writeMargin
  | .challenge => (within 1 15 v).map s.writeChallenge
  | .fill => (fillOf v).map fun f => s.setGeneral { s.settings.general with fill := f }
  | .source => (sourceOf v).map s.writeSource
  | .linkEnable n => (boolOf v).map (s.enableLink n)
  | .latency p => (latencyOf v).map fun y => s.updateTiming p fun t => { t with latency := y }
  | .lanes p => (lanesOf v).map fun y => s.updateTiming p fun t => { t with lanes := y }
  | .retention p => (retentionOf v).map fun y => s.setGuarded
      { s.settings.guarded with retention := s.settings.guarded.retention.set p y }
  | .access p => (accessOf v).map fun y => s.setGuarded
      { s.settings.guarded with access := s.settings.guarded.access.set p y }
  | .guard => (guardOf v).map fun y => s.setGuarded { s.settings.guarded with mode := y }
  | .bench _ => none

/-- The setting is guarded (Table 11.1). -/
def SettingName.guarded : SettingName → Bool
  | .retention _ => true
  | .access _ => true
  | .guard => true
  | .threshold _ => false
  | .attack _ => false
  | .hangover _ => false
  | .eligible _ => false
  | .margin => false
  | .challenge => false
  | .fill => false
  | .source => false
  | .linkEnable _ => false
  | .latency _ => false
  | .lanes _ => false
  | .bench _ => false

/-- The Guard Mode in force permits a guarded write (R191). -/
def State.guardPermits (s : State) : Bool :=
  match s.settings.guarded.mode with
  | .opened => true
  | .keyed => s.proc.lines.key.level
  | .sessionLock => false
  | .fixed => false

/-- WRITE_SETTING, its tests in order (R190). -/
def State.writeSetting (s : State) (id value : Nat) : Result × State :=
  match settingOf id with
  | none => (.range, s)
  | some x =>
    match s.written x value with
    | none => (.range, s)
    | some t => if x.guarded && !s.guardPermits then (.guarded, s) else (.ok, t)

/-! ### Gain Codes (R53, R54) -/

/-- SET_GAIN (R53, R54). -/
def State.setGain (s : State) (track gain : Nat) : Result × State :=
  match trackIndex track with
  | none => (.range, s)
  | some k =>
    let v := min gain 1023
    let t :=
      if s.sessionOpen then
        { s with changes := { s.changes with gain := s.changes.gain.set k (some v) } }
      else s.setGeneral { s.settings.general with gain := s.settings.general.gain.set k v }
    (if gain > 1023 then .clamped else .ok, t)

/-! ### Storing the Image (section 11.5) -/

/-- Set or clear a port's Store Latch (R193). -/
def State.setLatch (s : State) (p : Port) (b : Bool) : State :=
  { s with ports := s.ports.update p fun x => { x with latch := b } }

/-- DISABLE_STORE (R193). -/
def State.disableStore (s : State) (p : Port) : Result × State :=
  if s.store.isSome then (.busy, s) else (.ok, s.setLatch p false)

/-- The guarded settings as a store writes them: SESSION_LOCK as KEYED (R192). -/
def GuardedSettings.stored (g : GuardedSettings) : GuardedSettings :=
  match g.mode with
  | .sessionLock => { g with mode := .keyed }
  | .opened => g
  | .keyed => g
  | .fixed => g

/-- STORE_SETTINGS, its tests in order (R193). -/
def State.storeSettings (s : State) (p : Port) : Result × State :=
  if (s.ports.get p).latch = false then (.noEnable, s)
  else if s.store.isSome then (.busy, s)
  else (.ok, { s with store := some ⟨p, s.settings.general, s.settings.guarded.stored, true⟩ })

/-- The guarded part of the Image holds FIXED with a good check word and is never written again (R192). -/
def Image.isFixed (x : Image) : Bool :=
  x.guarded.checkMatches && decide (x.guarded.content.mode = .fixed)

/-- The general part, written completely (R193). -/
def Image.withGeneral (x : Image) (job : StoreJob) : Image := { x with general := ⟨true, true, job.general⟩ }

/-- The Image after a complete store (R192, R193). -/
def Image.afterStore (x : Image) (job : StoreJob) : Image :=
  if x.isFixed then x.withGeneral job
  else { x.withGeneral job with guarded := ⟨true, true, job.guarded⟩ }

/-- A store in progress completes (R193, R194). -/
def State.completeStore (s : State) : State :=
  match s.store with
  | none => s
  | some job =>
    let t := State.setLatch { s with image := s.image.afterStore job, store := none } job.port false
    if job.notify then t.raise job.port .storeDone else t

/-! ### Power (R194, R195) -/

/-- A part of the Image that was being written when power was lost fails its check (R194). -/
def ImagePart.broken {α : Type} (x : ImagePart α) : ImagePart α := { x with checkMatches := false }

/-- The Image after power is lost during a store, by the part being written (R192, R194). -/
def Image.afterLoss (x : Image) (job : StoreJob) (writing : ImageHalf) : Image :=
  match writing with
  | .general => { x with general := x.general.broken }
  | .guarded =>
    if x.isFixed then { x with general := x.general.broken }
    else { x.withGeneral job with guarded := x.guarded.broken }

/-- The Image that power-off leaves (R194). -/
def State.imageLeft (s : State) (writing : ImageHalf) : Image :=
  match s.store with
  | none => s.image
  | some job => s.image.afterLoss job writing

/-- Power is lost (R194; log entry 17). -/
def State.losePower (s : State) (writing : ImageHalf) : State :=
  { State.powered (s.imageLeft writing) with
    pending := s.pending, power := .off, resetLine := s.resetLine }

/-- Power is applied (R195; log entry 17). -/
def State.applyPower (s : State) : State :=
  { State.powered (s.imageLeft .general) with pending := s.pending, resetLine := s.resetLine }

/-- One Track number's activity settings lie within Table 4.1. -/
def TrackSettings.inRange (t : TrackSettings) : Bool :=
  decide (t.threshold ≤ 32767 ∧ 1 ≤ t.attack ∧ t.attack ≤ 15 ∧ t.hangover ≤ 255)

/-- Every value of the general part but the plan lies within Table 11.1. -/
def GeneralSettings.inRange (g : GeneralSettings) : Bool :=
  g.gain.toList.all (fun x => decide (x ≤ 1023)) && g.track.toList.all TrackSettings.inRange &&
    decide (g.margin ≤ 32767 ∧ 1 ≤ g.challenge ∧ g.challenge ≤ 15 ∧ -8388608 ≤ g.fill ∧ g.fill ≤ 8388607)

/-- The general part is loaded (R195). -/
def Image.generalLoads (x : Image) : Bool :=
  x.general.checkMatches && x.general.codesDefined && decide (x.general.content.plan.fault = none) &&
    x.general.content.inRange

/-- The guarded part is loaded (R195). -/
def Image.guardedLoads (x : Image) : Bool := x.guarded.checkMatches && x.guarded.codesDefined

/-- The Working Settings that the start-up load gives (R195). -/
def Image.loaded (x : Image) : Settings where
  general := if x.generalLoads then x.general.content else defaultGeneral
  guarded := if x.guardedLoads then x.guarded.content else defaultGuarded

/-- The start-up settings load completes (R195, R22, R40). -/
def State.completeLoad (s : State) : State :=
  let w := s.image.loaded
  let t := { s with
    power := .running
    settings := w
    plans := startPlans w.general.plan
    clockUnit := startClock w.general.source }
  if s.image.generalLoads && s.image.guardedLoads then t else t.raiseBoth .defaulted

/-! ### The RESET line (R15, R22, R41, R59, R77, R100, R124, R149, R166, R180, R187, R194, R196) -/

/-- Every pending setting is applied to the setting in effect (R22, R59, R77). -/
def Settings.applying (w : Settings) (c : PendingChanges) : Settings :=
  { w with general := { w.general with
    gain := Vector.ofFn fun i => c.gain[i].getD w.general.gain[i]
    track := Vector.ofFn fun i => w.general.track[i].taking c.track[i]
    margin := c.margin.getD w.general.margin
    challenge := c.challenge.getD w.general.challenge
    source := c.source.getD w.general.source } }

/-- A port while RESET is asserted. What it has shifted out stays on record, with what is out of a transfer that
ends there (R149, R175, R180; log entry 14). -/
def State.portUnderReset (s : State) (p : Port) : PortState :=
  let x := s.ports.get p
  match (s.readers.get p).flight with
  | none => { startPort with out := x.out, part := x.part, ended := x.ended }
  | some t => { startPort with out := x.out ++ t.dataOut, part := t.partOut, ended := some t }

/-- The state that the RESET line puts the part into, while it is asserted. -/
def State.underReset (s : State) : State :=
  let w := s.settings.applying s.changes
  { s with
    resetLine := true
    inPeriod := false
    stage := .idle
    links := Vector.replicate 8 startLink
    clockUnit := startClock w.general.source
    plans := startPlans w.general.plan
    tracks := startTracks
    inProgress := none
    activity := Vector.replicate 32 startActivity
    floor := startFloor
    proc := startProceedings
    ring := startRing
    marks := startMarks
    readers := Both.same startReader
    ports := ⟨s.portUnderReset .a, s.portUnderReset .b⟩
    events := Both.same startEvents
    settings := w
    changes := noChanges
    store := s.store.map fun job => { job with notify := false } }

/-- RESET is asserted. Without power only the line's level changes; during the load, the load is abandoned
(R195). A boundary that has begun is finished first (log entry 7). -/
def State.assertReset (s : State) : State :=
  match s.power with
  | .off => { s with resetLine := true }
  | .loading => s.underReset
  | .running => s.finishBoundary.underReset

/-- RESET is released: the Result is OK on both ports (R170). A Frame in progress then says of itself that
RESET meets it (R175; log entry 22). -/
def State.releaseReset (s : State) : State :=
  { s with
    resetLine := false
    ports := ⟨{ s.ports.a with result := .ok }, { s.ports.b with result := .ok }⟩ }

end Sys2Proof.Machine
end

