-- ==== Sys2Proof/Machine/Reports.lean ====
section
/-! DEFINITION. The byte layouts of Blocks, Marks and responses (chapter 12), with the withholding of
R58, R139 and R145. -/

namespace Sys2Proof.Machine

/-- Exactly `n` bytes: a list cut or filled with 00H (R198). -/
def padTo (n : Nat) (xs : List Byte) : List Byte := xs.take n ++ List.replicate (n - xs.length) 0

/-- One byte of a number (R198). -/
def byte (n : Nat) : Byte := BitVec.ofNat 8 n

/-! ### Blocks (R199, R139) -/

/-- Bytes of a track entry (Table 12.4). -/
def TrackEntry.bytes (e : TrackEntry) : List Byte :=
  [sourceCode e.source, activityCode e.activity] ++ le 2 e.clips ++ le 2 e.peak

/-- A track entry as a DENIED port receives it: only the Source State is kept (R139, R58). -/
def TrackEntry.withheld (e : TrackEntry) : TrackEntry := ⟨e.source, .quiet, 0, 0⟩

/-- The 32 track entries of a header or a last-block record (R198). -/
def entryBytes (es : List TrackEntry) : List Byte := padTo 192 (es.flatMap TrackEntry.bytes)

/-- The 256-byte header (Table 12.3). -/
def Block.header (b : Block) (withheld : Bool) : List Byte :=
  [kindCode b.kind, classCode b.cls, byte (widthBits b.width), byte b.trackCount] ++
    le 4 b.sequence ++ le 2 b.session ++ le 2 b.generation.toNat ++ le 6 b.time ++ le 4 b.covered ++
    le 2 b.bodyLength ++ [trackOrNone b.holder, flagByte withheld] ++ le 6 b.spanEnd ++
    List.replicate 32 0 ++ entryBytes b.entries

/-- The body: each Track's samples in time order (R199). -/
def Block.bodyBytes (b : Block) : List Byte :=
  padTo b.bodyLength (b.body.flatMap fun xs => xs.flatMap fun v => leSigned (widthBytes b.width) v)

/-- The withheld copy of a RESTRICTED Block (Table 7.5). -/
def Block.withheldCopy (b : Block) : Block :=
  { b with holder := none, entries := b.entries.map TrackEntry.withheld, body := [] }

/-- The port's Restricted Access withholds this Block's content (R139). -/
def Block.isWithheld (b : Block) (access : Access) : Bool :=
  decide (b.cls = .restricted ∧ access = .denied)

/-- A Block as a port with this Restricted Access receives it. -/
def Block.seenBy (b : Block) (access : Access) : Block :=
  if b.isWithheld access then b.withheldCopy else b

/-- The bytes a READ_BLOCK of a stored Block requests: the header, and for WHOLE the body (R135). -/
def Block.bytes (b : Block) (access : Access) (whole : Bool) : List Byte :=
  (b.seenBy access).header (b.isWithheld access) ++ (if whole then (b.seenBy access).bodyBytes else [])

/-- The NONE header of an empty reply (R136). -/
def noneHeader : List Byte := List.replicate 256 0

/-! ### Marks (R200, R145) -/

/-- The flag byte of a Mark (Table 12.5); bits 5 to 7, which the table does not assign, are 0 (DESIGN CHOICE, log
entry 34). -/
def Mark.flagBits (m : Mark) (withheld : Bool) : Byte :=
  byte ((if m.restricted then 1 else 0) + (if m.clamped then 2 else 0) +
    (if m.block.isSome then 4 else 0) + (if m.tag.isSome then 8 else 0) + (if withheld then 16 else 0))

/-- The port's Restricted Access withholds this Mark's argument and tag (R145). -/
def Mark.isWithheld (m : Mark) (access : Access) : Bool :=
  m.restricted && decide (access = .denied)

/-- The 32-byte entry of a Mark as a port with this Restricted Access receives it (Table 12.5, R145). -/
def Mark.bytes (m : Mark) (access : Access) : List Byte :=
  let hidden := m.isWithheld access
  le 6 m.serial ++ [markKindCode m.kind, partyCode m.origin] ++ le 6 m.time ++
    le 4 (m.block.getD 0) ++ le 2 (if hidden then 0 else m.arg.toNat) ++
    le 4 (if hidden then 0 else (m.tag.getD 0).toNat) ++ [m.flagBits hidden] ++ List.replicate 7 0

/-! ### Responses (R202) -/

/-- The five Reader flags in a byte (Table 12.7); bits 5 to 7, which the table does not assign, are 0 (DESIGN
CHOICE, log entry 34). -/
def ReaderFlags.byte (f : ReaderFlags) : Byte :=
  Machine.byte ((if f.avail then 1 else 0) + (if f.empty then 2 else 0) + (if f.half then 4 else 0) +
    (if f.lagWarn then 8 else 0) + (if f.atFloor then 16 else 0))

/-- The pair is complete (R133). -/
def Reader.pairComplete (r : Reader) : Bool := decide (r.pair = .complete)

/-- The count of the Pending Gap's periods (R112). -/
def Ring.gapCount (r : Ring) : Nat :=
  match r.gap with
  | none => 0
  | some g => g.count

/-- The Reader fields of STATUS (R147). -/
def Reader.statusBytes (r : Reader) : List Byte :=
  [readerStateCode r.state, retentionCode r.retention] ++ le 5 r.read ++ le 5 r.release ++ le 6 r.mark ++
    [r.flags.byte] ++ le 4 r.skipped ++ le 4 r.missed ++ [flagByte r.pairComplete] ++
    le 2 r.availLevel ++ le 2 r.lagLevel

/-- STATUS, 73 bytes (R178, R202). -/
def State.statusData (s : State) (p : Port) : List Byte :=
  [stateCode s.proc.state, targetCode s.proc.target] ++ le 2 s.proc.session ++ [flagByte s.proc.verify] ++
    le 6 s.proc.clock ++ le 4 s.proc.periods ++ le 5 s.ring.next ++ le 2 s.ring.blocks.length ++
    le 4 s.ring.gapCount ++ le 2 s.marks.marks.length ++ le 6 s.marks.next ++ le 4 s.marks.lost ++
    [flagByte s.store.isSome, guardCode s.settings.guarded.mode, clockSourceCode s.sourceInUse] ++
    (s.readers.get p).statusBytes

/-- READ_EVENTS, 6 bytes (R183, R202). -/
def State.eventData (s : State) (p : Port) : List Byte :=
  le 2 (s.events.get p).flags.toNat ++ le 2 (s.events.get p).mask.toNat ++
    [flagByte (s.attention p), flagByte (s.readers.get p).pairComplete]

/-- The four bytes of a link in READ_LINKS (R14, R202). -/
def State.linkBytes (s : State) (n : Fin 8) : List Byte :=
  [linkStateCode s.links[n].state, flagByte s.settings.general.linkEnable[n]] ++
    le 2 s.links[n].badFrames

/-- The pending source of READ_LINKS, FFH for none. -/
def sourceOrNone : Option ClockSource → Byte
  | none => 0xFF
  | some x => clockSourceCode x

/-- READ_LINKS, 35 bytes (R14, R202). -/
def State.linkData (s : State) : List Byte :=
  (List.finRange 8).flatMap s.linkBytes ++
    [clockSourceCode s.settings.general.source, clockSourceCode s.sourceInUse,
      sourceOrNone s.changes.source]

/-- An entry of a plan in READ_PLAN (section 12.6). -/
def groupBytes : Option Group → List Byte
  | none => [0, 0, 0]
  | some g => [modeCode g.mode, byte g.first, byte g.count]

/-- A plan in READ_PLAN, 50 bytes (section 12.6). -/
def Plan.bytes (p : Plan) : List Byte :=
  [byte (widthBits p.width), byte p.total] ++ p.entries.toList.flatMap groupBytes

/-- READ_PLAN, 109 bytes (R31, R202). -/
def State.planData (s : State) : List Byte :=
  let active := s.settings.general.plan
  s.plans.pendingPlan.bytes ++ le 2 s.plans.editCount.toNat ++ [portOrNone s.plans.lastEditor] ++
    active.bytes ++ le 2 s.plans.generation.toNat ++ [byte active.trackCount] ++
    le 2 active.bodyLength ++ [flagByte s.plans.armed.isSome]

/-- The cumulative Clip counts are withheld on a DENIED port (R58). -/
def State.countsWithheld (s : State) (access : Access) : Bool :=
  decide (access = .denied) && (s.tracks.restrictedClip || (s.sessionOpen && s.restrictedInProgress))

/-- A Track number's pending Gain Code, FFFFH for none (R198). -/
def gainOrNone : Option Nat → Nat
  | none => 65535
  | some g => g

/-- A Track number's six bytes in READ_TRACKS (R56, R202). -/
def State.trackBytes (s : State) (hidden : Bool) (k : Fin 32) : List Byte :=
  le 2 s.settings.general.gain[k] ++ le 2 (gainOrNone s.changes.gain[k]) ++
    le 2 (if hidden then 0 else s.tracks.clips[k])

/-- The last-block record is withheld on a DENIED port (R58). -/
def LastBlock.isWithheld (l : LastBlock) (access : Access) : Bool :=
  decide (l.cls = .restricted ∧ access = .denied)

/-- The last-block record, 200 bytes (R56, R58, R202). Without a record the Block Period count is sent as 0
(DESIGN CHOICE, log entry 32). -/
def lastBytes (access : Access) : Option LastBlock → List Byte
  | none => le 4 0 ++ [0xFF, 0, 0xFF, 0] ++ List.replicate 192 0
  | some l =>
    if l.isWithheld access then
      le 4 l.period ++ [classCode l.cls, byte l.entries.length, 0xFF, 1] ++
        entryBytes (l.entries.map TrackEntry.withheld)
    else
      le 4 l.period ++ [classCode l.cls, byte l.entries.length, trackOrNone l.holder, 0] ++
        entryBytes l.entries

/-- READ_TRACKS, 393 bytes (R56, R58, R202). -/
def State.trackData (s : State) (p : Port) : List Byte :=
  let access := s.settings.guarded.access.get p
  let hidden := s.countsWithheld access
  (List.finRange 32).flatMap (s.trackBytes hidden) ++ [flagByte hidden] ++ lastBytes access s.tracks.last

/-- A Hold Table entry in READ_HOLDS, 10 bytes (R120, R202). The bytes of a free entry after its owner are
00H (DESIGN CHOICE, log entry 32). -/
def holdBytes : Option Hold → List Byte
  | none => 0xFF :: List.replicate 9 0
  | some h => [portCode h.owner, retentionCode (some h.cls)] ++ le 4 h.first ++ le 4 h.last

/-- READ_HOLDS, 88 bytes (R120, R202). -/
def State.holdData (s : State) (p : Port) : List Byte :=
  [entryOrNone (s.ring.lastPlaced.get p)] ++ le 5 s.ring.next ++ le 2 s.ring.blocks.length ++
    s.ring.holds.toList.flatMap holdBytes

/-- READ_SETTING, 4 bytes (R189, R202). -/
def State.settingData (s : State) (id : Nat) : List Byte :=
  match settingOf id with
  | none => []
  | some x => leSigned 4 (s.settingValue x)

end Sys2Proof.Machine
end

