-- ==== Sys2Proof/Machine/Readers.lean ====
section
/-! DEFINITION. The Reader Contexts: attaching, levels, releasing and seeking, transfers, and PORT_RESET
(chapter 7, R179). -/

namespace Sys2Proof.Machine

/-! ### Attaching and detaching (R126, R127) -/

/-- The cursors of an ATTACH: the read and release cursor, and the Mark Cursor (Table 7.2). -/
def State.attachCursors (s : State) (newest : Bool) : Nat × Nat :=
  if newest then (s.ring.next, s.marks.next) else (s.ring.oldest, s.marks.oldest)

/-- An accepted ATTACH (R126). -/
def State.attachAt (s : State) (p : Port) (newest : Bool) : State :=
  let c := s.attachCursors newest
  let x := s.readers.get p
  (s.setReader p { x with
    state := .following
    retention := some (s.settings.guarded.retention.get p)
    read := c.1
    release := c.1
    mark := c.2
    skipped := 0
    missed := 0
    flags := clearFlags }).evaluate p

/-- ATTACH, its tests in order (R126). -/
def State.attach (s : State) (p : Port) (position : Byte) : Result × State :=
  let x := s.readers.get p
  if position.toNat > 1 then (.range, s)
  else if x.pair ≠ .complete then (.thresholds, s)
  else if x.attached then (.already, s)
  else (.ok, s.attachAt p (decide (position.toNat = 1)))

/-- DETACH (R127), with the re-counts it brings (R116, R162). -/
def State.detach (s : State) (p : Port) : Result × State :=
  let x := s.readers.get p
  if x.attached then
    (.ok, (s.setReader p { x with
      state := .detached, retention := none, flags := clearFlags }).drainGap.drainLost)
  else (.already, s)

/-! ### The level pair (R132, R133) -/

/-- Pair state after SET_AVAIL_LEVEL (Table 7.4). -/
def PairState.afterAvail : PairState → PairState
  | .complete => .awaitingLag
  | .awaitingLag => .awaitingLag
  | .awaitingAvail => .complete

/-- Pair state after SET_LAG_LEVEL (Table 7.4). -/
def PairState.afterLag : PairState → PairState
  | .complete => .awaitingAvail
  | .awaitingLag => .complete
  | .awaitingAvail => .awaitingAvail

/-- The result of a level (R132). -/
def levelResult (level : Nat) : Result := if level > 8191 then .clamped else .ok

/-- SET_AVAIL_LEVEL (R132, R133). -/
def State.setAvailLevel (s : State) (p : Port) (level : Nat) : Result × State :=
  let x := s.readers.get p
  (levelResult level,
    (s.setReader p { x with availLevel := min level 8191, pair := x.pair.afterAvail }).evaluate p)

/-- SET_LAG_LEVEL (R132, R133). -/
def State.setLagLevel (s : State) (p : Port) (level : Nat) : Result × State :=
  let x := s.readers.get p
  (levelResult level,
    (s.setReader p { x with lagLevel := min level 8191, pair := x.pair.afterLag }).evaluate p)

/-! ### Releasing and seeking (R140, R141) -/

/-- RELEASE (R140), with the re-count that follows (R116). -/
def State.release (s : State) (p : Port) (seq : Nat) : Result × State :=
  let x := s.readers.get p
  if !x.attached then (.notAttached, s)
  else if seq + 1 ≤ x.release then (.already, s)
  else
    let t := ((s.setReader p { x with release := min (seq + 1) x.read }).evaluate p).drainGap
    (if seq + 1 ≤ x.read then .ok else .clamped, t)

/-- SEEK (R141). -/
def State.seek (s : State) (p : Port) (seq : Nat) : Result × State :=
  let x := s.readers.get p
  if !x.attached then (.notAttached, s)
  else if seq < s.ring.oldest then (.released, s)
  else if seq > s.ring.next then (.range, s)
  else (.ok, (s.setReader p { x with read := seq, release := min x.release seq }).evaluate p)

/-! ### Transfers (R134 to R138, R142 to R144) -/

/-- Every requested byte was clocked and the Frame ended on a byte boundary (R137, R143). -/
def Transfer.complete (t : Transfer) : Bool :=
  decide (t.edges % t.lanes.edgesPerByte = 0 ∧ t.payload.length ≤ t.bytesOf t.edges)

/-- The outcome of a transfer at its chip-select rise (R136, R137, R143). -/
def Transfer.outcome (t : Transfer) : Result :=
  match t.delivery with
  | .emptyReply => .empty
  | .block _ =>
    if t.overtaken.isSome then .overtaken else if t.complete then .ok else .partialRead
  | .marks _ count =>
    if count = 0 then .empty
    else if t.overtaken.isSome then .overtaken
    else if t.complete then .ok
    else .partialRead

/-- What a complete delivery moves: the Read Cursor, or the Mark Cursor with the re-count of R162 (R137,
R143). -/
def State.delivered (s : State) (p : Port) (d : Delivery) : State :=
  let x := s.readers.get p
  match d with
  | .emptyReply => s
  | .block _ => (s.setReader p { x with read := x.read + 1 }).evaluate p
  | .marks _ count => (s.setReader p { x with mark := x.mark + count }).drainLost

/-- The chip-select rise that ends a transfer (R137, R143). -/
def State.endTransfer (s : State) (p : Port) (t : Transfer) : State :=
  let x := s.readers.get p
  let u := s.setReader p { x with flight := none }
  let u := u.setOut p ((s.ports.get p).out ++ t.dataOut) t.partOut
  let u := u.setResult p t.outcome
  if t.outcome = .ok then u.delivered p t.delivery else u

/-- A chip-select rise on a port, `more` data edges after the last the model knows of: it ends the port's
transfer in flight, if any. -/
def State.rise (s : State) (p : Port) (more : Nat) : State :=
  match (s.readers.get p).flight with
  | none => s
  | some t => s.endTransfer p { t with edges := t.edges + more }

/-- The port's Reader now has this transfer in flight (R134, R142). -/
def State.launch (s : State) (p : Port) (t : Transfer) : State :=
  s.setReader p { s.readers.get p with flight := some t }

/-- What a READ_BLOCK delivers, fixed at the start of its data phase (R134 to R136, R139). -/
def State.blockDelivery (s : State) (p : Port) (whole : Bool) : Delivery × List Byte :=
  let x := s.readers.get p
  if x.avail s.ring.next > 0 then
    match s.ring.blockAt x.read with
    | some b => (.block x.read, b.bytes (s.settings.guarded.access.get p) whole)
    | none => (.emptyReply, noneHeader)
  else (.emptyReply, noneHeader)

/-- The Marks a READ_MARKS delivers: the first `k` from the Mark Cursor (R142). -/
def State.marksFrom (s : State) (first k : Nat) : List Mark :=
  (s.marks.marks.filter fun m => decide (first ≤ m.serial)).take k

/-- What a READ_MARKS delivers, fixed at the start of its data phase (R142, R145). -/
def State.markDelivery (s : State) (p : Port) (most : Nat) : Delivery × List Byte :=
  let x := s.readers.get p
  let k := min most (s.marks.next - x.mark)
  (.marks x.mark k,
    byte k :: padTo (32 * k)
      ((s.marksFrom x.mark k).flatMap fun m => m.bytes (s.settings.guarded.access.get p)))

/-! ### PORT_RESET (R179) -/

/-- A Reader after a PORT_RESET of its port: the cursors are kept for STATUS (R149, Table 7.7). -/
def Reader.portReset (x : Reader) : Reader :=
  { startReader with read := x.read, release := x.release, mark := x.mark }

/-- PORT_RESET's own four effects (R179). -/
def State.clearPort (s : State) (p : Port) : State :=
  { s with
    events := s.events.set p startEvents
    ports := s.ports.update p fun x => { x with result := .ok, latch := false }
    readers := s.readers.update p Reader.portReset
    ring := s.ring.withoutHoldsOf p }

/-- PORT_RESET, with the re-counts that follow (R179, R116, R162). -/
def State.portReset (s : State) (p : Port) : Result × State :=
  (.ok, (s.clearPort p).drainGap.drainLost)

end Sys2Proof.Machine
end

