-- ==== Sys2Proof/Machine/Ports.lean ====
section
/-! DEFINITION. The Client Ports: taking a Frame, write commands, read commands, transfers and ADD_NOTE
(chapter 9, R156). -/

namespace Sys2Proof.Machine

/-! ### What a port shifts out (R169) -/

/-- Lane width and read latency of a Frame: those in force at its chip-select fall (R168, R174; log entry
11). -/
def State.timingOf (s : State) (p : Port) (f : Frame) : PortTiming :=
  f.atFall.getD (s.settings.general.timing.get p)

/-- Whole bytes after the command byte (R167). -/
def wholeBytes (w : LaneWidth) (edges : Nat) : Nat := edges / w.edgesPerByte

/-- The Frame ends on a byte boundary (R167). -/
def aligned (w : LaneWidth) (edges : Nat) : Bool := edges % w.edgesPerByte == 0

/-- `n` bytes of 00H driven by the part. -/
def zeros (n : Nat) : List (Option Byte) := List.replicate n (some 0)

/-- `n` bytes as the part answers parameter bytes: 00H at lane width 1, undriven at 4 (R168, R169). -/
def paramOut (w : LaneWidth) (n : Nat) : List (Option Byte) :=
  match w with
  | .one => zeros n
  | .four => List.replicate n none

/-- The Result byte that goes out with a command byte (R169, R170). -/
def State.resultOut (s : State) (p : Port) : List (Option Byte) := [some (resultCode (s.ports.get p).result)]

/-- What goes out in a Frame of `edges` rising edges, `reply` giving its first bytes, as many as asked for:
the whole bytes, the command byte's among them, and the bits of a part byte at its end (R167 to R169). -/
def wireOut (w : LaneWidth) (edges : Nat) (reply : Nat → List (Option Byte)) :
    List (Option Byte) × List (Option Bool) :=
  if edges < 8 then ([], leadingBits edges ((reply 1).getD 0 none))
  else
    let n := wholeBytes w (edges - 8) + 1
    (reply n, leadingBits (partLength w (edges - 8)) ((reply (n + 1)).getD n none))

/-- Shift out a reply in a Frame of `edges` rising edges (R167 to R169). -/
def State.send (s : State) (p : Port) (w : LaneWidth) (edges : Nat)
    (reply : Nat → List (Option Byte)) : State :=
  s.setOut p (wireOut w edges reply).1 (wireOut w edges reply).2

/-- A reply that begins with the Result byte, `rest` giving the bytes after it (R169). -/
def State.withResult (s : State) (p : Port) (rest : Nat → List (Option Byte)) : Nat → List (Option Byte)
  | 0 => []
  | n + 1 => s.resultOut p ++ rest n

/-! ### Taking a Frame (R171, R175) -/

/-- A Frame answered with a Result, and 00H after the Result byte (R169, R171, R175). -/
def State.answer (s : State) (p : Port) (w : LaneWidth) (edges : Nat) (r : Result) : State :=
  (s.send p w edges (s.withResult p zeros)).setResult p r

/-- The state that a Frame of a port meets: after the load, a begun boundary is finished and a transfer of the
port has ended (log entries 7 and 12). -/
def State.atFrame (s : State) (p : Port) : State :=
  if s.power = .loading then s else s.finishBoundary.rise p 0

/-- A Frame of `edges` rising edges with the line released: during the load BUSY, else what its row does (R175). -/
def State.judge (s : State) (p : Port) (w : LaneWidth) (edges : Nat) (act : State → State) : State :=
  if s.power = .loading then s.answer p w edges .busy else act (s.atFrame p)

/-- Bits that have gone out after `edges` rising edges of a Frame (R167, R168). -/
def bitsOut (w : LaneWidth) (edges : Nat) : Nat :=
  if edges < 8 then edges else 8 + (edges - 8) * w.bitsPerEdge

/-- Byte `i` of a Frame in which RESET is asserted after `bits` bits: the bits that are out then are its own and
the rest 00H; a byte that has begun undriven stands as undriven (R175; log entry 14). -/
def cutByte (bits i : Nat) (b : Option Byte) : Option Byte :=
  if 8 * (i + 1) ≤ bits then b
  else if bits ≤ 8 * i then some 0
  else b.map fun x => joinBits (bits - 8 * i) x 0

/-- Bit `i` of a Frame in which RESET is asserted after `bits` bits (R175). -/
def cutBit (bits i : Nat) (b : Option Bool) : Option Bool := if i < bits then b else some false

/-- What goes out in a Frame that has shifted out as `x` has it, but for RESET, asserted after `bits` bits
(R169, R175). -/
def State.shiftCut (s : State) (p : Port) (bits : Nat) (x : PortState) : State :=
  s.setOut p (x.out.mapIdx (cutByte bits)) (x.part.mapIdx fun i => cutBit bits (8 * x.out.length + i))

/-- A Frame of a port of `edges` rising edges, by what the part can do with one. Without power nothing; while
RESET is asserted the port takes none and 00H goes out. A Frame that RESET meets is abandoned, not judged: asserted
in it, RESET leaves what has gone out and makes the rest 00H; a Frame that fell while it was asserted does nothing
after the release (R169, R175, R195; log entry 22). -/
def State.takeFrame (s : State) (p : Port) (w : LaneWidth) (edges : Nat) (reset : AtReset)
    (act : State → State) : State :=
  if s.power = .off then s
  else if s.resetLine then
    match reset with
    | .steady => s.send p w edges zeros
    | .asserted _ => s
    | .released => s.send p w edges zeros
  else
    match reset with
    | .steady => s.judge p w edges act
    | .asserted k => (s.atFrame p).shiftCut p (bitsOut w k) (((s.judge p w edges act).rise p 0).ports.get p)
    | .released => s

/-- A Frame with a complete command byte, at the lane width that governs it (R168). -/
def State.takeCommand (s : State) (p : Port) (f : Frame) (act : State → State) : State :=
  s.takeFrame p (s.timingOf p f).lanes (f.edges + 8) f.reset act

/-- The reply to a Frame with a complete command byte goes out: the Result byte, then `rest` (R169). -/
def State.reply (s : State) (p : Port) (f : Frame) (rest : Nat → List (Option Byte)) : State :=
  s.send p (s.timingOf p f).lanes (f.edges + 8) (s.withResult p rest)

/-- What goes out in a write Frame, and in a read Frame that ends within its parameters: the Result, then
00H at lane width 1 and nothing at 4. The host drives the four lanes for every byte of a write Frame after
the command byte, bytes beyond the parameters included (R168, R169; log entry 31). -/
def State.shifted (s : State) (p : Port) (f : Frame) : State :=
  s.reply p f (paramOut (s.timingOf p f).lanes)

/-- A write command of `n` parameter bytes: executed when the Frame holds exactly those, else BAD_FRAME
(R172). At lane width 4 the part drives no lane for the bytes beyond the parameters (R168; DESIGN CHOICE,
log entry 31). -/
def State.writeFrame (s : State) (p : Port) (f : Frame) (n : Nat)
    (act : State → List Byte → Result × State) : State :=
  s.takeCommand p f fun s =>
    let w := (s.timingOf p f).lanes
    let t := s.shifted p f
    if f.edges = n * w.edgesPerByte then
      (act t (f.bytes w n)).2.setResult p (act t (f.bytes w n)).1
    else t.setResult p .badFrame

/-- What a read command answers in `total` bytes after the command byte: `n` parameter bytes, then its
dummy bytes or data, then 00H (R169, R173). -/
def readOut (w : LaneWidth) (n : Nat) (data : List Byte) (total : Nat) : List (Option Byte) :=
  paramOut w n ++ (padTo (total - n) data).map some

/-- A read command of `n` parameter bytes whose data is taken whole. The row stands at the start of the
command's data, which is that of the state then; a refused one stands at the end of its parameters, and one
that ends within them at its chip-select rise (R173; log entry 11). -/
def State.readFrame (s : State) (p : Port) (f : Frame) (n : Nat)
    (refusal : State → List Byte → Option Result) (data : State → List Byte → List Byte) : State :=
  s.takeCommand p f fun s =>
    let w := (s.timingOf p f).lanes
    if f.edges < n * w.edgesPerByte then (s.shifted p f).setResult p .badFrame
    else
      match refusal s (f.bytes w n) with
      | some r => (s.reply p f (readOut w n [])).setResult p r
      | none =>
        (s.reply p f (readOut w n (data s (f.bytes w n)))).setResult p
          (if aligned w f.edges then .ok else .badFrame)

/-- A read command without refusals. -/
def neverRefused (_ : State) (_ : List Byte) : Option Result := none

/-! ### READ_BLOCK and READ_MARKS (R134, R142, R174) -/

/-- Edges after the command byte at which the data phase begins: past the parameter and the dummy bytes
(R134, R174). -/
def dataStart (t : PortTiming) : Nat := (1 + t.latency.bytes) * t.lanes.edgesPerByte

/-- A read command of one parameter byte and dummy bytes: refused at its parameter, PARTIAL before its data
phase, else a transfer in flight until the chip-select rise (R134, R142, R173, R174). -/
def State.transferFrame (s : State) (p : Port) (f : Frame) (refusal : State → Byte → Option Result)
    (fixed : State → Byte → Delivery × List Byte) : State :=
  s.takeCommand p f fun s =>
    let m := s.timingOf p f
    let c := f.byteAt m.lanes 0
    if f.edges < m.lanes.edgesPerByte then (s.shifted p f).setResult p .badFrame
    else
      match refusal s c with
      | some r => (s.reply p f (readOut m.lanes 1 [])).setResult p r
      | none =>
        if f.edges ≤ dataStart m then
          (s.reply p f (readOut m.lanes 1 [])).setResult p .partialRead
        else
          State.launch
            (s.setOut p (s.resultOut p ++ readOut m.lanes 1 [] (1 + m.latency.bytes)) []) p
            ⟨(fixed s c).1, (fixed s c).2, m.lanes, f.edges - dataStart m, none⟩

/-- The refusals of READ_BLOCK (R134). -/
def State.readBlockRefusal (s : State) (p : Port) (c : Byte) : Option Result :=
  if c.toNat > 1 then some .range
  else if !(s.readers.get p).attached then some .notAttached
  else none

/-- The refusals of READ_MARKS (R142). -/
def State.readMarksRefusal (s : State) (p : Port) (c : Byte) : Option Result :=
  if c.toNat = 0 ∨ c.toNat > 16 then some .range
  else if !(s.readers.get p).attached then some .notAttached
  else none

/-- The transfer is one of READ_BLOCK. -/
def Delivery.isBlock : Delivery → Bool
  | .block _ => true
  | .emptyReply => true
  | .marks _ _ => false

/-- The port has a transfer of READ_BLOCK, or of READ_MARKS, in flight. -/
def State.inFlight (s : State) (p : Port) (ofBlock : Bool) : Bool :=
  match (s.readers.get p).flight with
  | none => false
  | some t => t.delivery.isBlock == ofBlock

/-- The chip-select rise of a Frame whose transfer RESET has ended, `more` data edges after the assertion: 00H has
gone out from there on, and nothing else comes of it (R149, R175; log entry 14). -/
def State.riseEnded (s : State) (p : Port) (ofBlock : Bool) (more : Nat) : State :=
  let x := s.ports.get p
  match x.ended with
  | none => s
  | some t =>
    if t.delivery.isBlock = ofBlock then
      let u := { t with edges := t.edges + more }
      let bits := partLength t.lanes t.edges
      let rest := u.dataOut.drop (t.bytesOf t.edges)
      s.setOut p (x.out ++ rest.mapIdx (cutByte bits))
        (u.partOut.mapIdx fun i => cutBit bits (8 * rest.length + i))
    else s

/-- The chip-select rise of a transfer of its kind, in flight or ended by RESET; no effect where there is none (log
entry 4). -/
def State.riseOf (s : State) (p : Port) (ofBlock : Bool) (more : Nat) : State :=
  if s.live && s.inFlight p ofBlock then s.finishBoundary.rise p more else s.riseEnded p ofBlock more

/-! ### Parameters (R201) -/

/-- Parameter byte `i`. -/
def param (bs : List Byte) (i : Nat) : Byte := bs.getD i 0

/-- The number in `n` parameter bytes from byte `i` on (R198). -/
def number (bs : List Byte) (i n : Nat) : Nat := leNat ((bs.drop i).take n)

/-! ### ADD_NOTE (R156) -/

/-- The lower bound of a GIVEN time: the time of the oldest stored Block, or 0 (R156). -/
def State.noteBound (s : State) : Nat :=
  match s.ring.blocks with
  | [] => 0
  | b :: _ => b.time

/-- The time of a note: now, or the GIVEN time raised to the bound and lowered to now (R156). -/
def State.noteTime (s : State) (given : Bool) (time : Nat) : Nat :=
  if given then min (max time s.noteBound) s.proc.clock else s.proc.clock

/-- ADD_NOTE, its tests in order (R156). -/
def State.addNote (s : State) (p : Port) (option : Byte) (time arg tag : Nat) : Result × State :=
  if option.toNat > 1 then (.range, s)
  else if !s.sessionOpen then (.state, s)
  else
    let given := decide (option.toNat = 1)
    let fixed := s.noteTime given time
    let clamped := given && decide (fixed ≠ time)
    (if clamped then .clamped else .ok,
      s.requestMark ⟨.note, partyOf p, fixed, BitVec.ofNat 16 arg, some (BitVec.ofNat 32 tag), false,
        clamped⟩)

/-! ### Events (R184, R185) -/

/-- ACK_EVENTS (R184). -/
def State.ackEvents (s : State) (p : Port) (value : BitVec 16) : State :=
  { s with events := s.events.update p fun x => { x with flags := x.flags &&& ~~~value } }

/-- SET_MASK (R185). -/
def State.setMask (s : State) (p : Port) (value : BitVec 16) : State :=
  { s with events := s.events.update p fun x => { x with mask := value } }

end Sys2Proof.Machine
end

