-- ==== Sys2Proof/Machine/BoundaryCommands.lean ====
section
/-! DEFINITION. The Block Boundary's occurrences and what catches up outside it. -/

namespace Sys2Proof.Machine

/-- BLOCK_BOUNDARY (R64, R79): the finished Block is dealt with, and the FLOOR Mark, if any, comes after
`floorAfter` other Marks of the boundary (log entries 7 and 10). -/
def execBlockBoundary (floorAfter : Nat) (s : State) : Host.Outcome State Fault Refusal :=
  .next (if s.live && !s.turned && (s.reachTurned floorAfter).turned then s.reachTurned floorAfter else s)

/-- STORE_GAP_BLOCK (R115, R116): a waiting Pending Gap is stored when the Block in Progress is not a
recording one and a Slot can be had (log entry 24). -/
def execStoreGapBlock (s : State) : Host.Outcome State Fault Refusal :=
  .next (if s.live then s.finishBoundary.drainGap else s)

/-- PENDING_TARGET_TAKE (R90). -/
def execPendingTargetTake (s : State) : Host.Outcome State Fault Refusal :=
  .next (s.atBoundary State.targetDue State.takeTarget)

/-- SESSION_CLOSE (R91): the boundary with CLOSE pending. -/
def execSessionClose (s : State) : Host.Outcome State Fault Refusal :=
  .next (s.atBoundary (fun t => t.closeDue && t.proc.closePending) State.closeNow)

/-- SESSION_LENGTH_LIMIT (R92): the boundary at which the Block Period count reaches its limit. -/
def execSessionLengthLimit (s : State) : Host.Outcome State Fault Refusal :=
  .next (s.atBoundary (fun t => t.closeDue && decide (t.proc.periods ≥ sessionLimit)) State.closeNow)

/-- PLAN_ACTIVATE (R37, R38). -/
def execPlanActivate (s : State) : Host.Outcome State Fault Refusal :=
  .next (s.atBoundary State.planDue State.takeArmed)

/-- PENDING_GAIN_APPLY (R54, R55): the LEVEL Marks of the named Track numbers come first, in that order. -/
def execPendingGainApply (order : List (Fin 32)) (s : State) : Host.Outcome State Fault Refusal :=
  .next (s.atBoundary State.gainDue fun t => t.takeGains order)

/-- PENDING_SETTING_APPLY (R62): the boundary begins with the pending activity and floor settings. -/
def execPendingSettingApply (s : State) : Host.Outcome State Fault Refusal :=
  .next (if s.boundaryDue && s.settingWaiting then s.beginBoundary else s)

/-- CLOCK_SOURCE_APPLY (R20, R21). -/
def execClockSourceApply (s : State) : Host.Outcome State Fault Refusal :=
  .next (s.atBoundary State.sourceDue State.takeSource)

/-- MARKS_LOST_STORE (R161, R162): in CLOSED, with Marks counted lost and an entry to be had (log entry
24). -/
def execMarksLostStore (s : State) : Host.Outcome State Fault Refusal :=
  .next (if s.live then s.finishBoundary.drainLost else s)

/-- STORE_COMPLETION (R193, R194): a store runs on through RESET, and ends with power. -/
def execStoreCompletion (s : State) : Host.Outcome State Fault Refusal := .next s.completeStore

end Sys2Proof.Machine
end

