-- ==== Sys2Proof/Decode.lean ====
section
/-! DEFINITION. How a command is told from the wire: the command codes of Table 9.2, the judgement of a
whole Frame up to its command byte (R171), and the host's `decodeTableWord`. -/

namespace Sys2Proof

/-- The command that a complete command byte names on a port, Table 9.2; none where the byte is no
command. READ_BLOCK_END and READ_MARKS_END are chip-select rises and have no code. -/
def commandOf (port : Port) (frame : Frame) (code : Byte) : Option Instr :=
  match code.toNat with
  | 0xC0 => some (.status port frame)
  | 0xC1 => some (.readEvents port frame)
  | 0xC2 => some (.ackEvents port frame)
  | 0xC3 => some (.setMask port frame)
  | 0xCF => some (.portReset port frame)
  | 0xD0 => some (.attach port frame)
  | 0xD1 => some (.detach port frame)
  | 0xD2 => some (.readBlock port frame)
  | 0xD3 => some (.release port frame)
  | 0xD4 => some (.seek port frame)
  | 0xD5 => some (.setAvailLevel port frame)
  | 0xD6 => some (.setLagLevel port frame)
  | 0xD8 => some (.placeHold port frame)
  | 0xD9 => some (.dropHold port frame)
  | 0xDA => some (.readHolds port frame)
  | 0xE0 => some (.readMarks port frame)
  | 0xE1 => some (.addNote port frame)
  | 0xE8 => some (.openSession port frame)
  | 0xE9 => some (.closeSession port frame)
  | 0xEA => some (.setState port frame)
  | 0xF0 => some (.planClear port frame)
  | 0xF1 => some (.planSetGroup port frame)
  | 0xF2 => some (.planSetFormat port frame)
  | 0xF3 => some (.readPlan port frame)
  | 0xF4 => some (.activatePlan port frame)
  | 0xF8 => some (.setGain port frame)
  | 0xF9 => some (.readTracks port frame)
  | 0xFA => some (.readLinks port frame)
  | 0xB0 => some (.readSetting port frame)
  | 0xB1 => some (.writeSetting port frame)
  | 0xB2 => some (.enableStore port frame)
  | 0xB3 => some (.disableStore port frame)
  | 0xB4 => some (.storeSettings port frame)
  | _ => none

/-- The command code of a command of Table 9.2, none for every other row. -/
def codeOf : Instr → Option Byte
  | .status _ _ => some 0xC0
  | .readEvents _ _ => some 0xC1
  | .ackEvents _ _ => some 0xC2
  | .setMask _ _ => some 0xC3
  | .portReset _ _ => some 0xCF
  | .attach _ _ => some 0xD0
  | .detach _ _ => some 0xD1
  | .readBlock _ _ => some 0xD2
  | .release _ _ => some 0xD3
  | .seek _ _ => some 0xD4
  | .setAvailLevel _ _ => some 0xD5
  | .setLagLevel _ _ => some 0xD6
  | .placeHold _ _ => some 0xD8
  | .dropHold _ _ => some 0xD9
  | .readHolds _ _ => some 0xDA
  | .readMarks _ _ => some 0xE0
  | .addNote _ _ => some 0xE1
  | .openSession _ _ => some 0xE8
  | .closeSession _ _ => some 0xE9
  | .setState _ _ => some 0xEA
  | .planClear _ _ => some 0xF0
  | .planSetGroup _ _ => some 0xF1
  | .planSetFormat _ _ => some 0xF2
  | .readPlan _ _ => some 0xF3
  | .activatePlan _ _ => some 0xF4
  | .setGain _ _ => some 0xF8
  | .readTracks _ _ => some 0xF9
  | .readLinks _ _ => some 0xFA
  | .readSetting _ _ => some 0xB0
  | .writeSetting _ _ => some 0xB1
  | .enableStore _ _ => some 0xB2
  | .disableStore _ _ => some 0xB3
  | .storeSettings _ _ => some 0xB4
  | .powerOn | .settingsLoadComplete | .powerLoss _ | .resetAssert | .resetRelease => none
  | .samplePeriod _ _ | .linkFrame _ _ | .linkLock _ _ | .linkSeekTimeout _ _ => none
  | .linkRelock _ _ | .linkDown _ _ | .houseClockLoss | .houseClockReturn => none
  | .benchLineAccept _ | .blockBoundary _ | .storeGapBlock | .pendingTargetTake => none
  | .sessionClose | .sessionLengthLimit | .planActivate | .pendingGainApply _ => none
  | .pendingSettingApply | .clockSourceApply | .marksLostStore | .storeCompletion => none
  | .zeroByteFrame _ | .frameDuringLoad _ _ | .shortFrame _ _ | .unknownCommand _ _ _ => none
  | .readBlockEnd _ _ | .readMarksEnd _ _ => none

/-- The byte that eight edges carry on lane 0, most significant bit first (R167). -/
def laneZeroByte (edges : List Nibble) : Byte :=
  (edges.take 8).foldl (fun b e => (b <<< 1) ||| (if e.getLsbD 0 then 1 else 0)) 0

/-- The row that a whole Frame on a port is, from all its rising edges: steps 1 to 4 of Table 9.1
(R171). `duringLoad` says that chip-select fell while the start-up settings load was in progress, and
`reset` how RESET meets the Frame (R175). -/
def frameRow (port : Port) (duringLoad : Bool) (reset : AtReset) (edges : List Nibble)
    (atFall : Option PortTiming) : Instr :=
  if edges.length = 0 then .zeroByteFrame port
  else if duringLoad then .frameDuringLoad port ⟨edges.length, reset⟩
  else if edges.length < 8 then .shortFrame port ⟨edges.length, reset⟩
  else
    let frame : Frame := ⟨edges.drop 8, 0, atFall, reset⟩
    match commandOf port frame (laneZeroByte edges) with
    | some i => i
    | none => .unknownCommand port (laneZeroByte edges) frame

/-- The command a word of the opcode table spells. No row of spec/opcode_table.json gives bits, so no
word spells one. -/
def decodeTableWord (_nbits _w : Nat) : Option Instr := none

end Sys2Proof
end

