-- ==== Sys2Proof/Machine/FrameCommands.lean ====
section
/-! DEFINITION. Frames that hold no command, and the commands of the ports and the Event Unit (chapters 9 and
10). -/

namespace Sys2Proof.Machine

/-- ZERO_BYTE_FRAME (R170, R171): ignored entirely. -/
def execZeroByteFrame (_ : Port) (s : State) : Host.Outcome State Fault Refusal :=
  .next s

/-- The lane width in force at a chip-select fall during the load: the factory default (R168, R195; log
entries 2 and 11). -/
def lanesInLoad (p : Port) : LaneWidth := (defaultGeneral.timing.get p).lanes

/-- FRAME_DURING_LOAD (R171, R175): BUSY whatever the Frame holds. A Frame without an edge is the row
ZERO_BYTE_FRAME. -/
def execFrameDuringLoad (p : Port) (f : BareFrame) (s : State) : Host.Outcome State Fault Refusal :=
  .next (if f.edges = 0 then s
    else s.takeFrame p (lanesInLoad p) f.edges f.reset fun t => t.answer p (lanesInLoad p) f.edges .busy)

/-- SHORT_FRAME (R171): BAD_FRAME, the first bits of the Result byte going out (R167, R169). -/
def execShortFrame (p : Port) (f : BareFrame) (s : State) : Host.Outcome State Fault Refusal :=
  .next (if 1 ≤ f.edges ∧ f.edges ≤ 7 then
    s.takeFrame p .one f.edges f.reset fun t => t.answer p .one f.edges .badFrame else s)

/-- UNKNOWN_COMMAND (R171): UNKNOWN whatever bytes follow the command byte. -/
def execUnknownCommand (p : Port) (code : Byte) (f : Frame) (s : State) :
    Host.Outcome State Fault Refusal :=
  .next (if (commandOf p f code).isNone then
    s.takeCommand p f fun t => (t.reply p f zeros).setResult p .unknown else s)

/-- STATUS (R178). -/
def execStatus (p : Port) (f : Frame) (s : State) : Host.Outcome State Fault Refusal :=
  .next (s.readFrame p f 0 neverRefused fun t _ => t.statusData p)

/-- READ_EVENTS (R183). -/
def execReadEvents (p : Port) (f : Frame) (s : State) : Host.Outcome State Fault Refusal :=
  .next (s.readFrame p f 0 neverRefused fun t _ => t.eventData p)

/-- ACK_EVENTS (R184). -/
def execAckEvents (p : Port) (f : Frame) (s : State) : Host.Outcome State Fault Refusal :=
  .next (s.writeFrame p f 2 fun t bs => (.ok, t.ackEvents p (BitVec.ofNat 16 (number bs 0 2))))

/-- SET_MASK (R185). -/
def execSetMask (p : Port) (f : Frame) (s : State) : Host.Outcome State Fault Refusal :=
  .next (s.writeFrame p f 2 fun t bs => (.ok, t.setMask p (BitVec.ofNat 16 (number bs 0 2))))

/-- PORT_RESET (R179). -/
def execPortReset (p : Port) (f : Frame) (s : State) : Host.Outcome State Fault Refusal :=
  .next (s.writeFrame p f 0 fun t _ => t.portReset p)

end Sys2Proof.Machine
end

