-- ==== Sys2Proof/Machine/PeriodCommands.lean ====
section
/-! DEFINITION. Sample Periods, links, the house clock and the Bench Lines. -/

namespace Sys2Proof.Machine

/-- SAMPLE_PERIOD (R16, R17, R43, R79, R95; log entry 6). Sample Periods go on while RESET is asserted, and
nothing is examined or sampled in them (R15, R22, R100). -/
def execSamplePeriod (edge : Bool) (levels : BenchLevels) (s : State) : Host.Outcome State Fault Refusal :=
  match s.power with
  | .off => .next s
  | .loading => .next s
  | .running =>
    if s.resetLine then .next { s with frameSyncs := s.frameSyncs + 1 }
    else .next (s.samplePeriod edge levels)

/-- LINK_FRAME (R1, R3 to R11). -/
def execLinkFrame (link : Fin 8) (input : LinkInput) (s : State) : Host.Outcome State Fault Refusal :=
  .next (if s.awaitsFrame link then s.receiveLink link input else s)

/-- LINK_LOCK: the frame with which a SEEKING link becomes LOCKED (R6, R9; log entry 8). -/
def execLinkLock (link : Fin 8) (input : LinkInput) (s : State) : Host.Outcome State Fault Refusal :=
  .next (s.receiveTransition link input .seeking .locked)

/-- LINK_SEEK_TIMEOUT: the frame with which a SEEKING link falls back to DOWN (R6; log entry 8). -/
def execLinkSeekTimeout (link : Fin 8) (input : LinkInput) (s : State) :
    Host.Outcome State Fault Refusal :=
  .next (s.receiveTransition link input .seeking .down)

/-- LINK_RELOCK: the frame with which a SLIPPING link becomes LOCKED (R8; log entry 8). -/
def execLinkRelock (link : Fin 8) (input : LinkInput) (s : State) : Host.Outcome State Fault Refusal :=
  .next (s.receiveTransition link input .slipping .locked)

/-- LINK_DOWN: the frame with which a SLIPPING link goes DOWN (R8, R9; log entry 8). -/
def execLinkDown (link : Fin 8) (input : LinkInput) (s : State) : Host.Outcome State Fault Refusal :=
  .next (s.receiveTransition link input .slipping .down)

/-- HOUSE_CLOCK_LOSS (R18, R21): the row stands at the end of the third edgeless Sample Period, which it counts;
no effect at any other (log entries 4 and 6). -/
def execHouseClockLoss (s : State) : Host.Outcome State Fault Refusal :=
  .next (if s.live && s.inPeriod && s.examineHouse.lossDue then s.examineHouse.loseHouse else s)

/-- HOUSE_CLOCK_RETURN (R19, R21): in CLOSED at the end of the Sample Period with which the count reaches 48,000,
which it counts, else at a Block Boundary (log entries 4 and 6). -/
def execHouseClockReturn (s : State) : Host.Outcome State Fault Refusal :=
  .next (if s.live && s.inPeriod && !s.sessionOpen && s.examineHouse.returnDue then s.examineHouse.houseReturns
    else s.atBoundary State.boundaryReturnDue State.takeReturn)

/-- BENCH_LINE_ACCEPT (R95 to R98): no effect unless the line's change has stood for 960 Sample Periods. -/
def execBenchLineAccept (line : Line) (s : State) : Host.Outcome State Fault Refusal :=
  .next (if s.live && s.inPeriod && s.acceptDue line then s.acceptLine line else s)

end Sys2Proof.Machine
end

