-- ==== Sys2Proof/Machine/PlanCommands.lean ====
section
/-! DEFINITION. The commands of the Plan Unit, the Track Processor and the links (chapters 1 to 3). -/

namespace Sys2Proof.Machine

/-- PLAN_CLEAR (R28). -/
def execPlanClear (p : Port) (f : Frame) (s : State) : Host.Outcome State Fault Refusal :=
  .next (s.writeFrame p f 0 fun t _ => t.planClear p)

/-- PLAN_SET_GROUP (R29). -/
def execPlanSetGroup (p : Port) (f : Frame) (s : State) : Host.Outcome State Fault Refusal :=
  .next (s.writeFrame p f 4 fun t bs =>
    t.planSetGroup p (param bs 0).toNat (param bs 1).toNat (param bs 2).toNat (param bs 3))

/-- PLAN_SET_FORMAT (R30). -/
def execPlanSetFormat (p : Port) (f : Frame) (s : State) : Host.Outcome State Fault Refusal :=
  .next (s.writeFrame p f 2 fun t bs => t.planSetFormat p (param bs 0).toNat (param bs 1).toNat)

/-- READ_PLAN (R31). -/
def execReadPlan (p : Port) (f : Frame) (s : State) : Host.Outcome State Fault Refusal :=
  .next (s.readFrame p f 0 neverRefused fun t _ => t.planData)

/-- ACTIVATE_PLAN (R34 to R37). -/
def execActivatePlan (p : Port) (f : Frame) (s : State) : Host.Outcome State Fault Refusal :=
  .next (s.writeFrame p f 2 fun t bs => t.activatePlan (BitVec.ofNat 16 (number bs 0 2)))

/-- SET_GAIN (R53, R54). -/
def execSetGain (p : Port) (f : Frame) (s : State) : Host.Outcome State Fault Refusal :=
  .next (s.writeFrame p f 3 fun t bs => t.setGain (param bs 0).toNat (number bs 1 2))

/-- READ_TRACKS (R56, R58). -/
def execReadTracks (p : Port) (f : Frame) (s : State) : Host.Outcome State Fault Refusal :=
  .next (s.readFrame p f 0 neverRefused fun t _ => t.trackData p)

/-- READ_LINKS (R14). -/
def execReadLinks (p : Port) (f : Frame) (s : State) : Host.Outcome State Fault Refusal :=
  .next (s.readFrame p f 0 neverRefused fun t _ => t.linkData)

end Sys2Proof.Machine
end

