-- ==== Sys2Proof/Machine/PowerCommands.lean ====
section
/-! DEFINITION. Power, the start-up settings load and the RESET line. -/

namespace Sys2Proof.Machine

/-- POWER_ON (R195; log entry 17). -/
def execPowerOn (s : State) : Host.Outcome State Fault Refusal := .next s.applyPower

/-- SETTINGS_LOAD_COMPLETE (R195): no effect unless the load is in progress (log entry 4). -/
def execSettingsLoadComplete (s : State) : Host.Outcome State Fault Refusal :=
  .next (if s.power = .loading ∧ s.resetLine = false then s.completeLoad else s)

/-- POWER_LOSS (R194; log entry 17). -/
def execPowerLoss (writing : ImageHalf) (s : State) : Host.Outcome State Fault Refusal :=
  .next (s.losePower writing)

/-- RESET_ASSERT (R100, R196). -/
def execResetAssert (s : State) : Host.Outcome State Fault Refusal :=
  .next (if s.resetLine then s else s.assertReset)

/-- RESET_RELEASE (R175, R15, R22; log entry 22). -/
def execResetRelease (s : State) : Host.Outcome State Fault Refusal :=
  .next (if s.resetLine then s.releaseReset else s)

end Sys2Proof.Machine
end

