-- ==== Sys2Proof/Machine/ReaderCommands.lean ====
section
/-! DEFINITION. The commands of the Reader Contexts (chapter 7). -/

namespace Sys2Proof.Machine

/-- ATTACH (R126). -/
def execAttach (p : Port) (f : Frame) (s : State) : Host.Outcome State Fault Refusal :=
  .next (s.writeFrame p f 1 fun t bs => t.attach p (param bs 0))

/-- DETACH (R127). -/
def execDetach (p : Port) (f : Frame) (s : State) : Host.Outcome State Fault Refusal :=
  .next (s.writeFrame p f 0 fun t _ => t.detach p)

/-- READ_BLOCK up to the edges clocked so far (R134; log entry 12). -/
def execReadBlock (p : Port) (f : Frame) (s : State) : Host.Outcome State Fault Refusal :=
  .next (s.transferFrame p f (fun t c => t.readBlockRefusal p c)
    fun t c => t.blockDelivery p (decide (c.toNat = 1)))

/-- READ_BLOCK_END: the chip-select rise, `edges` data edges later (R137). -/
def execReadBlockEnd (p : Port) (edges : Nat) (s : State) : Host.Outcome State Fault Refusal :=
  .next (s.riseOf p true edges)

/-- RELEASE (R140). -/
def execRelease (p : Port) (f : Frame) (s : State) : Host.Outcome State Fault Refusal :=
  .next (s.writeFrame p f 4 fun t bs => t.release p (number bs 0 4))

/-- SEEK (R141). -/
def execSeek (p : Port) (f : Frame) (s : State) : Host.Outcome State Fault Refusal :=
  .next (s.writeFrame p f 5 fun t bs => t.seek p (number bs 0 5))

/-- SET_AVAIL_LEVEL (R132). -/
def execSetAvailLevel (p : Port) (f : Frame) (s : State) : Host.Outcome State Fault Refusal :=
  .next (s.writeFrame p f 2 fun t bs => t.setAvailLevel p (number bs 0 2))

/-- SET_LAG_LEVEL (R132). -/
def execSetLagLevel (p : Port) (f : Frame) (s : State) : Host.Outcome State Fault Refusal :=
  .next (s.writeFrame p f 2 fun t bs => t.setLagLevel p (number bs 0 2))

/-- READ_MARKS up to the edges clocked so far (R142; log entry 12). -/
def execReadMarks (p : Port) (f : Frame) (s : State) : Host.Outcome State Fault Refusal :=
  .next (s.transferFrame p f (fun t c => t.readMarksRefusal p c)
    fun t c => t.markDelivery p c.toNat)

/-- READ_MARKS_END: the chip-select rise, `edges` data edges later (R143). -/
def execReadMarksEnd (p : Port) (edges : Nat) (s : State) : Host.Outcome State Fault Refusal :=
  .next (s.riseOf p false edges)

end Sys2Proof.Machine
end

