-- ==== Sys2Proof/Machine/RecordCommands.lean ====
section
/-! DEFINITION. The commands of the Hold Table, the Mark List and the Proceedings Controller (chapters 5, 6
and 8). -/

namespace Sys2Proof.Machine

/-- PLACE_HOLD (R118). -/
def execPlaceHold (p : Port) (f : Frame) (s : State) : Host.Outcome State Fault Refusal :=
  .next (s.writeFrame p f 8 fun t bs => t.placeHold p (number bs 0 4) (number bs 4 4))

/-- DROP_HOLD (R119). -/
def execDropHold (p : Port) (f : Frame) (s : State) : Host.Outcome State Fault Refusal :=
  .next (s.writeFrame p f 1 fun t bs => t.dropHold p (param bs 0).toNat)

/-- READ_HOLDS (R120). -/
def execReadHolds (p : Port) (f : Frame) (s : State) : Host.Outcome State Fault Refusal :=
  .next (s.readFrame p f 0 neverRefused fun t _ => t.holdData p)

/-- ADD_NOTE (R156). -/
def execAddNote (p : Port) (f : Frame) (s : State) : Host.Outcome State Fault Refusal :=
  .next (s.writeFrame p f 13 fun t bs =>
    t.addNote p (param bs 0) (number bs 1 6) (number bs 7 2) (number bs 9 4))

/-- OPEN_SESSION (R81 to R83). -/
def execOpenSession (p : Port) (f : Frame) (s : State) : Host.Outcome State Fault Refusal :=
  .next (s.writeFrame p f 1 fun t bs => t.openSession p (param bs 0))

/-- CLOSE_SESSION (R88). -/
def execCloseSession (p : Port) (f : Frame) (s : State) : Host.Outcome State Fault Refusal :=
  .next (s.writeFrame p f 0 fun t _ => t.requestClose p)

/-- SET_STATE (R89). -/
def execSetState (p : Port) (f : Frame) (s : State) : Host.Outcome State Fault Refusal :=
  .next (s.writeFrame p f 1 fun t bs => t.setState p (param bs 0))

end Sys2Proof.Machine
end

