-- ==== Sys2Proof/Machine/SettingCommands.lean ====
section
/-! DEFINITION. The commands of the Settings Store (chapter 11). -/

namespace Sys2Proof.Machine

/-- READ_SETTING (R189). -/
def execReadSetting (p : Port) (f : Frame) (s : State) : Host.Outcome State Fault Refusal :=
  .next (s.readFrame p f 2
    (fun _ bs => if (settingOf (number bs 0 2)).isNone then some .range else none)
    fun t bs => t.settingData (number bs 0 2))

/-- WRITE_SETTING (R190). -/
def execWriteSetting (p : Port) (f : Frame) (s : State) : Host.Outcome State Fault Refusal :=
  .next (s.writeFrame p f 6 fun t bs => t.writeSetting (number bs 0 2) (number bs 2 4))

/-- ENABLE_STORE (R193). -/
def execEnableStore (p : Port) (f : Frame) (s : State) : Host.Outcome State Fault Refusal :=
  .next (s.writeFrame p f 0 fun t _ => (.ok, t.setLatch p true))

/-- DISABLE_STORE (R193). -/
def execDisableStore (p : Port) (f : Frame) (s : State) : Host.Outcome State Fault Refusal :=
  .next (s.writeFrame p f 0 fun t _ => t.disableStore p)

/-- STORE_SETTINGS (R193). -/
def execStoreSettings (p : Port) (f : Frame) (s : State) : Host.Outcome State Fault Refusal :=
  .next (s.writeFrame p f 0 fun t _ => t.storeSettings p)

end Sys2Proof.Machine
end

