-- ==== Sys2Proof/Machine/Dispatch.lean ====
section
/-! DEFINITION. One arm for each command: its meaning. -/

namespace Sys2Proof.Machine

def exec (i : Instr) (s : State) : Host.Outcome State Fault Refusal :=
  match i with
  | .powerOn => Sys2Proof.Machine.execPowerOn s
  | .settingsLoadComplete => Sys2Proof.Machine.execSettingsLoadComplete s
  | .powerLoss writing => Sys2Proof.Machine.execPowerLoss writing s
  | .resetAssert => Sys2Proof.Machine.execResetAssert s
  | .resetRelease => Sys2Proof.Machine.execResetRelease s
  | .samplePeriod houseEdge levels => Sys2Proof.Machine.execSamplePeriod houseEdge levels s
  | .linkFrame link input => Sys2Proof.Machine.execLinkFrame link input s
  | .linkLock link input => Sys2Proof.Machine.execLinkLock link input s
  | .linkSeekTimeout link input => Sys2Proof.Machine.execLinkSeekTimeout link input s
  | .linkRelock link input => Sys2Proof.Machine.execLinkRelock link input s
  | .linkDown link input => Sys2Proof.Machine.execLinkDown link input s
  | .houseClockLoss => Sys2Proof.Machine.execHouseClockLoss s
  | .houseClockReturn => Sys2Proof.Machine.execHouseClockReturn s
  | .benchLineAccept line => Sys2Proof.Machine.execBenchLineAccept line s
  | .blockBoundary floorAfter => Sys2Proof.Machine.execBlockBoundary floorAfter s
  | .storeGapBlock => Sys2Proof.Machine.execStoreGapBlock s
  | .pendingTargetTake => Sys2Proof.Machine.execPendingTargetTake s
  | .sessionClose => Sys2Proof.Machine.execSessionClose s
  | .sessionLengthLimit => Sys2Proof.Machine.execSessionLengthLimit s
  | .planActivate => Sys2Proof.Machine.execPlanActivate s
  | .pendingGainApply order => Sys2Proof.Machine.execPendingGainApply order s
  | .pendingSettingApply => Sys2Proof.Machine.execPendingSettingApply s
  | .clockSourceApply => Sys2Proof.Machine.execClockSourceApply s
  | .marksLostStore => Sys2Proof.Machine.execMarksLostStore s
  | .storeCompletion => Sys2Proof.Machine.execStoreCompletion s
  | .zeroByteFrame port => Sys2Proof.Machine.execZeroByteFrame port s
  | .frameDuringLoad port frame => Sys2Proof.Machine.execFrameDuringLoad port frame s
  | .shortFrame port frame => Sys2Proof.Machine.execShortFrame port frame s
  | .unknownCommand port code frame => Sys2Proof.Machine.execUnknownCommand port code frame s
  | .status port frame => Sys2Proof.Machine.execStatus port frame s
  | .readEvents port frame => Sys2Proof.Machine.execReadEvents port frame s
  | .ackEvents port frame => Sys2Proof.Machine.execAckEvents port frame s
  | .setMask port frame => Sys2Proof.Machine.execSetMask port frame s
  | .portReset port frame => Sys2Proof.Machine.execPortReset port frame s
  | .attach port frame => Sys2Proof.Machine.execAttach port frame s
  | .detach port frame => Sys2Proof.Machine.execDetach port frame s
  | .readBlock port frame => Sys2Proof.Machine.execReadBlock port frame s
  | .readBlockEnd port edges => Sys2Proof.Machine.execReadBlockEnd port edges s
  | .release port frame => Sys2Proof.Machine.execRelease port frame s
  | .seek port frame => Sys2Proof.Machine.execSeek port frame s
  | .setAvailLevel port frame => Sys2Proof.Machine.execSetAvailLevel port frame s
  | .setLagLevel port frame => Sys2Proof.Machine.execSetLagLevel port frame s
  | .placeHold port frame => Sys2Proof.Machine.execPlaceHold port frame s
  | .dropHold port frame => Sys2Proof.Machine.execDropHold port frame s
  | .readHolds port frame => Sys2Proof.Machine.execReadHolds port frame s
  | .readMarks port frame => Sys2Proof.Machine.execReadMarks port frame s
  | .readMarksEnd port edges => Sys2Proof.Machine.execReadMarksEnd port edges s
  | .addNote port frame => Sys2Proof.Machine.execAddNote port frame s
  | .openSession port frame => Sys2Proof.Machine.execOpenSession port frame s
  | .closeSession port frame => Sys2Proof.Machine.execCloseSession port frame s
  | .setState port frame => Sys2Proof.Machine.execSetState port frame s
  | .planClear port frame => Sys2Proof.Machine.execPlanClear port frame s
  | .planSetGroup port frame => Sys2Proof.Machine.execPlanSetGroup port frame s
  | .planSetFormat port frame => Sys2Proof.Machine.execPlanSetFormat port frame s
  | .readPlan port frame => Sys2Proof.Machine.execReadPlan port frame s
  | .activatePlan port frame => Sys2Proof.Machine.execActivatePlan port frame s
  | .setGain port frame => Sys2Proof.Machine.execSetGain port frame s
  | .readTracks port frame => Sys2Proof.Machine.execReadTracks port frame s
  | .readLinks port frame => Sys2Proof.Machine.execReadLinks port frame s
  | .readSetting port frame => Sys2Proof.Machine.execReadSetting port frame s
  | .writeSetting port frame => Sys2Proof.Machine.execWriteSetting port frame s
  | .enableStore port frame => Sys2Proof.Machine.execEnableStore port frame s
  | .disableStore port frame => Sys2Proof.Machine.execDisableStore port frame s
  | .storeSettings port frame => Sys2Proof.Machine.execStoreSettings port frame s

end Sys2Proof.Machine
end

