-- ==== Sys2Proof/Safety.lean ====
section
/-! DEFINITION. The terms that claims use: when a port can take a Frame, what a Frame carries, which rows are
write and read commands, and the invariants of the part. -/

namespace Sys2Proof.Machine

/-! ### Frames -/

/-- A port can take a Frame: the part runs, RESET is released, no Block Boundary is open and no transfer of
the port is in flight. -/
def State.ready (s : State) (p : Port) : Prop :=
  s.power = .running ∧ s.resetLine = false ∧ s.stage = .idle ∧ (s.readers.get p).flight = none

/-- A port can take this Frame: RESET does not meet it either (R175). -/
def State.takes (s : State) (p : Port) (f : Frame) : Prop :=
  s.ready p ∧ f.reset = .steady

/-- A Frame carries exactly these bytes after its command byte, read at the lane width that governs it
(R167, R168). -/
def State.hears (s : State) (p : Port) (f : Frame) (bs : List Byte) : Prop :=
  f.edges = bs.length * (s.timingOf p f).lanes.edgesPerByte ∧
    f.bytes (s.timingOf p f).lanes bs.length = bs

/-- The state after a write Frame that changed nothing but its port (R169, R170). -/
def State.afterWrite (s : State) (p : Port) (f : Frame) (r : Result) : State :=
  (s.shifted p f).setResult p r

/-- The state after a read Frame of `n` parameter bytes that shifted out this data (R169, R173). -/
def State.afterRead (s : State) (p : Port) (f : Frame) (n : Nat) (data : List Byte) (r : Result) : State :=
  (s.reply p f (readOut (s.timingOf p f).lanes n data)).setResult p r

/-- Byte `i` after the command byte of a read Frame's reply: 00H in the `n` parameter bytes at lane width 1 and
nothing at 4, then the data, then 00H (R168, R169). -/
def repliedByte (w : LaneWidth) (n : Nat) (data : List Byte) (i : Nat) : Option Byte :=
  if i < n then (match w with | .one => some 0 | .four => none) else some (data.getD (i - n) 0)

/-- The number in `n` bytes of a response from byte `i` on (R198). -/
def fieldAt (d : List Byte) (i n : Nat) : Nat := leNat ((d.drop i).take n)

/-- The port, the Frame and the parameter bytes of a write command (Table 9.2). -/
def writeCommand : Instr → Option (Port × Frame × Nat)
  | .ackEvents p f => some (p, f, 2)
  | .setMask p f => some (p, f, 2)
  | .portReset p f => some (p, f, 0)
  | .attach p f => some (p, f, 1)
  | .detach p f => some (p, f, 0)
  | .release p f => some (p, f, 4)
  | .seek p f => some (p, f, 5)
  | .setAvailLevel p f => some (p, f, 2)
  | .setLagLevel p f => some (p, f, 2)
  | .placeHold p f => some (p, f, 8)
  | .dropHold p f => some (p, f, 1)
  | .addNote p f => some (p, f, 13)
  | .openSession p f => some (p, f, 1)
  | .closeSession p f => some (p, f, 0)
  | .setState p f => some (p, f, 1)
  | .planClear p f => some (p, f, 0)
  | .planSetGroup p f => some (p, f, 4)
  | .planSetFormat p f => some (p, f, 2)
  | .activatePlan p f => some (p, f, 2)
  | .setGain p f => some (p, f, 3)
  | .writeSetting p f => some (p, f, 6)
  | .enableStore p f => some (p, f, 0)
  | .disableStore p f => some (p, f, 0)
  | .storeSettings p f => some (p, f, 0)
  | _ => none

/-- The port, the Frame and the parameter bytes of a read command (Table 9.2). -/
def readCommand : Instr → Option (Port × Frame × Nat)
  | .status p f => some (p, f, 0)
  | .readEvents p f => some (p, f, 0)
  | .readBlock p f => some (p, f, 1)
  | .readHolds p f => some (p, f, 0)
  | .readMarks p f => some (p, f, 1)
  | .readPlan p f => some (p, f, 0)
  | .readTracks p f => some (p, f, 0)
  | .readLinks p f => some (p, f, 0)
  | .readSetting p f => some (p, f, 2)
  | _ => none

/-- The port and Frame of a command of Table 9.2. -/
def portCommand (i : Instr) : Option (Port × Frame) :=
  match writeCommand i, readCommand i with
  | some (p, f, _), _ => some (p, f)
  | none, some (p, f, _) => some (p, f)
  | none, none => none

/-- A transfer of the port has ended with this Result; no cursor is moved yet (R137, R143). -/
def State.afterRise (s : State) (p : Port) (t : Transfer) (r : Result) : State :=
  ((s.setReader p { s.readers.get p with flight := none }).setOut p
    ((s.ports.get p).out ++ t.dataOut) t.partOut).setResult p r

/-! ### What retention keeps, and a boundary's FLOOR Mark -/

/-- Retention forbids the freeing of a stored Block of Sequence `q`: an attached BINDING Reader has its Release
Cursor at or below it, or a BINDING Hold covers it (R105). -/
def State.slotKept (s : State) (q : Nat) : Prop :=
  (∃ p : Port, (s.readers.get p).state ≠ .detached ∧ (s.readers.get p).retention = some .binding ∧
    (s.readers.get p).release ≤ q) ∨
  ∃ (e : Fin 8) (h : Hold), s.ring.holds[e] = some h ∧ h.cls = .binding ∧ h.first ≤ q ∧ q ≤ h.last

/-- An attached BINDING Reader has its Mark Cursor at or below a serial (R157). -/
def State.markKept (s : State) (serial : Nat) : Prop :=
  ∃ p : Port, (s.readers.get p).state ≠ .detached ∧ (s.readers.get p).retention = some .binding ∧
    (s.readers.get p).mark ≤ serial

/-- The FLOOR Mark of a changed holder, at the present clock value (R73, R74, R200). -/
def State.floorRequest (s : State) (holder : Option (Fin 32)) (restricted : Bool) : MarkRequest :=
  ⟨.floor, .device, s.proc.clock, match holder with
    | none => 0xFFFF
    | some t => BitVec.ofNat 16 t.val, none, restricted, false⟩

/-- One more Mark of the boundary has been inserted: a FLOOR Mark that waited for it follows at once, and one
that waits for further Marks waits for one less (log entry 10). -/
def State.floorNext (s : State) : State :=
  match s.stage with
  | .turned next (some (after, holder, restricted)) =>
    if after ≤ 1 then
      State.insertMark { s with stage := .turned next none } (s.floorRequest holder restricted)
    else { s with stage := .turned next (some (after - 1, holder, restricted)) }
  | .turned _ none => s
  | .idle => s
  | .begun => s

/-! ### Tables of the manual -/

/-- Table 5.3, and R84 to R86 for a request with no CLOSE pending: the result, and the pending target after
it. The rows of ON_RECORD for a sidebar, which is entered at once, and of CLOSED are not in it. -/
def requestTable (now : ProceedingsState) (pending : Option Target) (privacy : Bool)
    (wanted : ProceedingsState) : Option (Result × Option Target) :=
  match now, pending, wanted with
  | .offRecord, none, .onRecord => some (.ok, some .onRecord)
  | .offRecord, none, .offRecord => some (.already, none)
  | .offRecord, none, .sidebar => some (.ok, some .sidebar)
  | .offRecord, some .onRecord, .onRecord => some (.already, some .onRecord)
  | .offRecord, some .onRecord, .offRecord => some (.ok, none)
  | .offRecord, some .onRecord, .sidebar => some (.ok, some .sidebar)
  | .offRecord, some .sidebar, .onRecord => some (.ok, some .onRecord)
  | .offRecord, some .sidebar, .offRecord => some (.ok, none)
  | .offRecord, some .sidebar, .sidebar => some (.already, some .sidebar)
  | .onRecord, none, .onRecord => some (.already, none)
  | .onRecord, none, .offRecord => some (.ok, some .offRecord)
  | .onRecord, some .offRecord, .onRecord => some (.ok, none)
  | .onRecord, some .offRecord, .offRecord => some (.already, some .offRecord)
  | .sidebar, none, .onRecord =>
    if privacy then some (.benchHeld, none) else some (.ok, some .onRecord)
  | .sidebar, none, .offRecord => some (.ok, some .offRecord)
  | .sidebar, none, .sidebar => some (.already, none)
  | .sidebar, some .onRecord, .onRecord =>
    if privacy then some (.benchHeld, some .onRecord) else some (.already, some .onRecord)
  | .sidebar, some .onRecord, .offRecord => some (.ok, some .offRecord)
  | .sidebar, some .onRecord, .sidebar => some (.ok, none)
  | .sidebar, some .offRecord, .onRecord =>
    if privacy then some (.benchHeld, some .offRecord) else some (.ok, some .onRecord)
  | .sidebar, some .offRecord, .offRecord => some (.already, some .offRecord)
  | .sidebar, some .offRecord, .sidebar => some (.ok, none)
  | _, _, _ => none

/-- The pending target with its origin after a request of a party: a new target takes the party, a withdrawn
one is gone, and any other result leaves it (R84). -/
def targetAfter (old : Option (Target × Party)) (row : Result × Option Target) (who : Party) :
    Option (Target × Party) :=
  if row.1 = .ok then row.2.map fun t => (t, who) else old

/-- The values that a WRITE_SETTING of a setting may carry, as the four bytes read unsigned (Tables 4.1, 4.2
and 11.1, section 12.5); a Bench Line level may not be written. -/
def SettingName.accepts : SettingName → Nat → Prop
  | .threshold _, v => v ≤ 32767
  | .attack _, v => 1 ≤ v ∧ v ≤ 15
  | .hangover _, v => v ≤ 255
  | .eligible _, v => v ≤ 1
  | .margin, v => v ≤ 32767
  | .challenge, v => 1 ≤ v ∧ v ≤ 15
  | .fill, v => -8388608 ≤ signed32 v ∧ signed32 v ≤ 8388607
  | .source, v => v ≤ 1
  | .linkEnable _, v => v ≤ 1
  | .latency _, v => v = 4 ∨ v = 8
  | .lanes _, v => v = 1 ∨ v = 4
  | .retention _, v => v = 1 ∨ v = 2
  | .access _, v => v = 1 ∨ v = 2
  | .guard, v => v ≤ 3
  | .bench _, _ => False

/-- What READ_SETTING returns of a written value: the fill value is signed (R198, section 12.5). -/
def SettingName.shown : SettingName → Nat → Int
  | .fill, v => signed32 v
  | _, v => v

/-- The bits of a number, most significant first (R197). -/
def bitsOf (n v : Nat) : List Bool := (List.range n).map fun i => v.testBit (n - 1 - i)

/-- The 100 bits that the check covers: a frame count and four samples (R2). -/
def linkMessage (count : BitVec 4) (samples : Vector Int 4) : List Bool :=
  bitsOf 4 count.toNat ++ samples.toList.flatMap fun v => bitsOf 24 (v % 16777216).toNat

/-- A Link Frame with a right sync pattern and check (R197, Table 12.1). -/
def linkFrameOf (count : BitVec 4) (samples : Vector Int 4) : List Bool :=
  bitsOf 8 0xE2 ++ linkMessage count samples ++ bitsOf 8 (crc8 (linkMessage count samples)).toNat

/-! ### Invariants -/

/-- The stored Blocks number at most 8192 and their Sequences are one consecutive run that ends at N − 1
(R103). -/
def Ring.wf (r : Ring) : Prop :=
  r.blocks.length ≤ 8192 ∧ r.blocks.length ≤ r.next ∧
    r.blocks.map Block.sequence = List.range' r.oldest r.blocks.length

/-- The stored Marks number at most 1024 and their serials are one consecutive run that ends before the next
serial (R152). -/
def MarkList.wf (m : MarkList) : Prop :=
  m.marks.length ≤ 1024 ∧ m.marks.length ≤ m.next ∧
    m.marks.map Mark.serial = List.range' m.oldest m.marks.length

/-- An attached Reader has a retention snapshot and its cursors lie in the record, and a transfer that has
lost nothing delivers what the cursor names (R125, R134, R142). -/
def State.readerWf (s : State) (x : Reader) : Prop :=
  (x.attached → x.retention.isSome ∧ s.ring.oldest ≤ x.release ∧ x.release ≤ x.read ∧ x.read ≤ s.ring.next ∧
    s.marks.oldest ≤ x.mark ∧ x.mark ≤ s.marks.next) ∧
  ∀ t, x.flight = some t → x.attached ∧
    (t.overtaken = none →
      match t.delivery with
      | .block q => x.read = q ∧ q < s.ring.next
      | .emptyReply => True
      | .marks first count => count = 0 ∨ (x.mark = first ∧ first + count ≤ s.marks.next))

/-- A Hold lies within the ring and spans at most 6144 Blocks (R117). -/
def State.holdWf (s : State) : Option Hold → Prop
  | none => True
  | some h => s.ring.oldest ≤ h.first ∧ h.first ≤ h.last ∧ h.last < s.ring.next ∧
      h.last - h.first + 1 ≤ 6144

/-- A port's last-placed entry holds a Hold of that port (R117). -/
def Ring.lastPlacedWf (r : Ring) : Prop :=
  ∀ p e, r.lastPlaced.get p = some e → ∃ h, r.holds[e] = some h ∧ h.owner = p

/-- The ring, the Mark List, both Readers and the Hold Table agree with one another (R103, R117, R125,
R152). -/
def State.recordWf (s : State) : Prop :=
  s.ring.wf ∧ s.marks.wf ∧ s.readerWf s.readers.a ∧ s.readerWf s.readers.b ∧
    (∀ e : Fin 8, s.holdWf s.ring.holds[e]) ∧ s.ring.lastPlacedWf

/-- A value that waits for an activity setting lies within Table 4.1. -/
def PendingTrack.inRange (c : PendingTrack) : Prop :=
  (∀ v, c.threshold = some v → v ≤ 32767) ∧ (∀ v, c.attack = some v → 1 ≤ v ∧ v ≤ 15) ∧
    ∀ v, c.hangover = some v → v ≤ 255

/-- Every value that waits lies within Table 11.1. -/
def PendingChanges.inRange (c : PendingChanges) : Prop :=
  (∀ k : Fin 32, ∀ v, c.gain[k] = some v → v ≤ 1023) ∧ (∀ k : Fin 32, (c.track[k]).inRange) ∧
    (∀ v, c.margin = some v → v ≤ 32767) ∧ ∀ v, c.challenge = some v → 1 ≤ v ∧ v ≤ 15

/-- The Working Settings lie within Table 11.1, the Active Plan and a waiting Armed Plan pass validation, and
so does everything that waits (R188, R36). -/
def State.settingsWf (s : State) : Prop :=
  s.settings.general.inRange = true ∧ s.settings.general.plan.fault = none ∧
    (∀ plan, s.plans.armed = some plan → plan.fault = none) ∧ s.changes.inRange

/-- A sample lies within the range of its width (R45). -/
def inWidth (w : Width) (v : Int) : Prop := rangeBottom w ≤ v ∧ v ≤ rangeTop w

/-- Every sample of the Block in progress and of every stored Block lies within its width's range (R45). -/
def State.samplesWf (s : State) : Prop :=
  (∀ b, s.inProgress = some b → ∀ w ∈ b.tracks, ∀ v ∈ w.samples, inWidth b.plan.width v) ∧
    ∀ b ∈ s.ring.blocks, ∀ xs ∈ b.body, ∀ v ∈ xs, inWidth b.width v

/-- A Floor Holder is ACTIVE or HANGING, and without a challenger no challenge is counted (R69). -/
def State.floorWf (s : State) : Prop :=
  (∀ t, s.floor.holder = some t →
    s.activity[t].state = .active ∨ s.activity[t].state = .hanging) ∧
    (s.floor.challenger = none → s.floor.count = 0)

/-- In CLOSED no target is pending and nothing is in progress; an open Session has a number from 1 to 65535;
an open Block Boundary has no Sample Period in progress, and one that leaves CLOSED behind it still has its
closing to make or has made it (R78, R80, R84, R91). -/
def State.procWf (s : State) : Prop :=
  (s.proc.state = .closed → s.proc.target = none ∧ s.proc.restricted = false ∧ s.inProgress = none) ∧
    (s.sessionOpen → 1 ≤ s.proc.session) ∧ s.proc.session ≤ 65535 ∧
    (s.stage ≠ .idle → s.inPeriod = false) ∧ (s.turned → s.inProgress = none) ∧
    ∀ next mark, s.stage = .turned next mark → next = .closed → s.sessionOpen → s.closesHere

end Sys2Proof.Machine
end

