-- ==== Sys2Proof/Certificates/Slice0/Obligations.lean ====
section
/-! DEFINITION. The statements for the provers. Each is a property of the part that a rule of the spec gives,
or, where its text says so, of the model's own choices. -/

open Sys2Proof Sys2Proof.Machine

/-! ### The machine and its Frames -/

/-- A step takes the command at the front of the queue; an empty queue idles (the model's choice, log entry
3). -/
def Obligations.StepTakesFront : Prop :=
  (∀ (c : Instr) (rest : List Instr) (s : State),
    step { s with pending := c :: rest } = exec c { s with pending := rest }) ∧
  ∀ s : State, s.pending = [] → step s = .next s

/-- Every command answers a next state and leaves the queue alone: nothing stops the part (R171: every Frame
gets a Result; R11: every damaged link frame a Source State). -/
def Obligations.CommandsAlwaysComplete : Prop :=
  ∀ (c : Instr) (s : State), ∃ t, exec c s = .next t ∧ t.pending = s.pending

/-- Reading a whole Frame from the wire gives back its row: a command sent as its code and any further edges
is that command, every command of Table 9.2 has a code, any other complete byte is UNKNOWN_COMMAND, a Frame
without edges is ZERO_BYTE_FRAME, one that fell during the load is FRAME_DURING_LOAD, and one of one to seven
edges is SHORT_FRAME (R167, R171, Tables 9.1 and 9.2); that a row says how RESET meets its Frame is the model's
choice (log entry 22). The bytes a host sends at a lane width are the bytes the part reads at it, whatever edges
follow (R168), and a number sent least significant byte first is read back (R198). -/
def Obligations.FramesReadFromTheWire : Prop :=
  (∀ (p : Port) (f : Frame) (c : Byte) (i : Instr), f.tail = 0 → commandOf p f c = some i →
    frameRow p false f.reset (byteEdges .one c ++ f.lanes) f.atFall = i ∧ codeOf i = some c) ∧
  (∀ (i : Instr) (c : Byte), codeOf i = some c → ∃ p f, commandOf p f c = some i) ∧
  (∀ (p : Port) (f : Frame) (c : Byte), f.tail = 0 → commandOf p f c = none →
    frameRow p false f.reset (byteEdges .one c ++ f.lanes) f.atFall = .unknownCommand p c f) ∧
  (∀ (p : Port) (load : Bool) (reset : AtReset) (fall : Option PortTiming),
    frameRow p load reset [] fall = .zeroByteFrame p) ∧
  (∀ (p : Port) (reset : AtReset) (edges : List Nibble) (fall : Option PortTiming), edges ≠ [] →
    frameRow p true reset edges fall = .frameDuringLoad p ⟨edges.length, reset⟩) ∧
  (∀ (p : Port) (reset : AtReset) (edges : List Nibble) (fall : Option PortTiming), edges ≠ [] →
    edges.length < 8 → frameRow p false reset edges fall = .shortFrame p ⟨edges.length, reset⟩) ∧
  (∀ (w : LaneWidth) (bs : List Byte) (tail : Nat),
    (Frame.ofBytes w bs tail).bytes w bs.length = bs ∧
      (Frame.ofBytes w bs tail).edges = bs.length * w.edgesPerByte + tail) ∧
  ∀ n v : Nat, v < 256 ^ n → (le n v).length = n ∧ leNat (le n v) = v

/-- Frames that hold no command: one without an edge changes nothing; one of one to seven edges is
BAD_FRAME, and that many bits of the Result byte go out; an unknown code is UNKNOWN whatever follows; one whose
chip-select fell during the load is BUSY, whether it is taken in the load or after it. Nothing but the port's
Result and what it shifted out changes (R167, R169, R170, R171, R175). That a Frame of the load is cut into bytes
at lane width 1, the factory default in force then, is the model's choice (log entries 2 and 11), and so is the
record of a part byte's bits (log entries 14 and 30). A Frame that RESET meets is not among them: see
FramesInLoadAndReset. -/
def Obligations.FramesWithoutCommand : Prop :=
  (∀ (p : Port) (s : State), exec (.zeroByteFrame p) s = .next s) ∧
  (∀ (p : Port) (n : Nat) (s : State), s.ready p → 1 ≤ n → n ≤ 7 →
    exec (.shortFrame p ⟨n, .steady⟩) s = .next ((s.setOut p [] ((List.range n).map fun i =>
      some ((resultCode (s.ports.get p).result).getLsbD (7 - i)))).setResult p .badFrame)) ∧
  (∀ (p : Port) (c : Byte) (f : Frame) (s : State), s.takes p f → commandOf p f c = none →
    let w := (s.timingOf p f).lanes
    exec (.unknownCommand p c f) s =
      .next ((s.setOut p (s.resultOut p ++ zeros (f.edges / w.edgesPerByte))
        (List.replicate (f.edges % w.edgesPerByte * w.bitsPerEdge) (some false))).setResult p .unknown)) ∧
  ∀ (p : Port) (n : Nat) (s : State),
    s.ready p ∨ (s.power = .loading ∧ s.resetLine = false) →
    (1 ≤ n → n < 8 → exec (.frameDuringLoad p ⟨n, .steady⟩) s = .next ((s.setOut p [] ((List.range n).map fun i =>
      some ((resultCode (s.ports.get p).result).getLsbD (7 - i)))).setResult p .busy)) ∧
    (8 ≤ n → exec (.frameDuringLoad p ⟨n, .steady⟩) s = .next ((s.setOut p
      (s.resultOut p ++ zeros ((n - 8) / 8)) (List.replicate ((n - 8) % 8) (some false))).setResult p .busy))

/-- Every command of Table 9.2 is answered BUSY while the start-up settings load is in progress, with 00H after
the Result byte, and changes nothing else; while RESET is asserted a port takes no Frame: it shifts out 00H and
no Result changes (R171, R175). A Frame whose chip-select fell before RESET was released is abandoned: whatever
it holds, it is not judged and changes no Result and no other state. One that fell before the assertion has, up to
the assertion, shifted out what it would have done otherwise, and 00H from there on; a byte of which a part is out
undriven then stands as undriven (R169, R175). That such a Frame's row says so of itself, that it stands before the
RESET_ASSERT and does nothing while RESET is asserted already, and that the bytes after the release of one that fell under RESET are not recorded, is the model's
choice (log entries 14 and 22). -/
def Obligations.FramesInLoadAndReset : Prop :=
  (∀ (i : Instr) (p : Port) (f : Frame) (s : State), portCommand i = some (p, f) →
    let w := (s.timingOf p f).lanes
    let bytes := f.edges / w.edgesPerByte
    let bits := List.replicate (f.edges % w.edgesPerByte * w.bitsPerEdge) (some false)
    (s.power = .loading → s.resetLine = false → f.reset = .steady →
      exec i s = .next ((s.setOut p (s.resultOut p ++ zeros bytes) bits).setResult p .busy)) ∧
    (s.power ≠ .off → s.resetLine = true → (f.reset = .steady ∨ f.reset = .released) →
      exec i s = .next (s.setOut p (zeros (bytes + 1)) bits)) ∧
    (s.resetLine = true → (∃ k, f.reset = .asserted k) → exec i s = .next s)) ∧
  (∀ (i : Instr) (p : Port) (s : State), s.resetLine = false →
    ((∃ f, portCommand i = some (p, f) ∧ f.reset = .released) ∨
      (∃ n, 1 ≤ n ∧ n ≤ 7 ∧ i = .shortFrame p ⟨n, .released⟩) ∨
      (∃ n, 1 ≤ n ∧ i = .frameDuringLoad p ⟨n, .released⟩) ∨
      ∃ c f, commandOf p f c = none ∧ f.reset = .released ∧ i = .unknownCommand p c f) →
    exec i s = .next s) ∧
  (∀ (p : Port) (n k : Nat) (s : State), s.ready p ∨ (s.power = .loading ∧ s.resetLine = false ∧
    (s.readers.get p).flight = none) → 1 ≤ n → n ≤ 7 →
    let bits := (List.range n).map fun i =>
      some (decide (i < k) && (resultCode (s.ports.get p).result).getLsbD (7 - i))
    exec (.shortFrame p ⟨n, .asserted k⟩) s = .next (s.setOut p [] bits) ∧
    exec (.frameDuringLoad p ⟨n, .asserted k⟩) s = .next (s.setOut p [] bits)) ∧
  (∀ (p : Port) (n k : Nat) (s : State), s.ready p ∨ (s.power = .loading ∧ s.resetLine = false ∧
    (s.readers.get p).flight = none) → 8 ≤ n → ∃ v : Byte,
    exec (.frameDuringLoad p ⟨n, .asserted k⟩) s = .next (s.setOut p (some v :: zeros ((n - 8) / 8))
      (List.replicate ((n - 8) % 8) (some false))) ∧
    ∀ m < 8, v.getLsbD (7 - m) = (decide (m < k) && (resultCode (s.ports.get p).result).getLsbD (7 - m))) ∧
  (∀ (p : Port) (n : Nat) (reset : AtReset) (s : State), s.power ≠ .off → s.resetLine = true →
    (reset = .steady ∨ reset = .released) →
    (1 ≤ n → n ≤ 7 → exec (.shortFrame p ⟨n, reset⟩) s =
      .next (s.setOut p [] (List.replicate n (some false)))) ∧
    (1 ≤ n → n ≤ 7 → exec (.frameDuringLoad p ⟨n, reset⟩) s =
      .next (s.setOut p [] (List.replicate n (some false)))) ∧
    (8 ≤ n → exec (.frameDuringLoad p ⟨n, reset⟩) s = .next (s.setOut p (zeros ((n - 8) / 8 + 1))
      (List.replicate ((n - 8) % 8) (some false)))) ∧
    ∀ c f, commandOf p f c = none → f.reset = reset →
      let w := (s.timingOf p f).lanes
      exec (.unknownCommand p c f) s = .next (s.setOut p (zeros (f.edges / w.edgesPerByte + 1))
        (List.replicate (f.edges % w.edgesPerByte * w.bitsPerEdge) (some false)))) ∧
  ∀ (i j : Instr) (p : Port) (c : Byte) (k : Nat) (f : Frame) (s t : State),
    let g := { f with reset := .asserted k }
    f.reset = .steady →
    (commandOf p g c = some i ∧ commandOf p f c = some j ∨
      commandOf p g c = none ∧ i = .unknownCommand p c g ∧ j = .unknownCommand p c f) →
    s.ready p ∨ (s.power = .loading ∧ s.resetLine = false) → exec j s = .next t →
    let x := (t.rise p 0).ports.get p
    let w := (s.timingOf p f).lanes
    let bits := if k < 8 then k else 8 + (k - 8) * w.bitsPerEdge
    ∃ out part, exec i s = .next (s.setOut p out part) ∧
      out.length = x.out.length ∧ part.length = x.part.length ∧
      (∀ n, 8 * (n + 1) ≤ bits → out[n]? = x.out[n]?) ∧
      (∀ n, n < out.length → bits ≤ 8 * n → out[n]? = some (some 0)) ∧
      (∀ n, 8 * n < bits → bits < 8 * (n + 1) → x.out[n]? = some none → out[n]? = some none) ∧
      (∀ n b, 8 * n < bits → bits < 8 * (n + 1) → x.out[n]? = some (some b) →
        ∃ v, out[n]? = some (some v) ∧
          ∀ m < 8, v.getLsbD (7 - m) = (decide (8 * n + m < bits) && b.getLsbD (7 - m))) ∧
      ∀ m, m < part.length → part[m]? =
        if 8 * out.length + m < bits then x.part[m]? else some (some false)

/-- A command that comes while a Block Boundary is open, or whose port still has a transfer in flight, acts as
on the state where the boundary is finished and the transfer has ended (the model's choice, log entries 7 and
12). -/
def Obligations.FramesFinishWhatIsOpen : Prop :=
  ∀ (i : Instr) (p : Port) (f : Frame) (s : State), portCommand i = some (p, f) → s.live = true →
    f.reset = .steady → exec i s = exec i (s.finishBoundary.rise p 0) ∧ (s.finishBoundary.rise p 0).ready p

/-- A Frame of one port changes neither the Result, nor the Store Latch, nor what was shifted out of the other
port (R170). -/
def Obligations.FramesLeaveOtherPort : Prop :=
  ∀ (i : Instr) (p : Port) (f : Frame) (s t : State), portCommand i = some (p, f) → exec i s = .next t →
    t.ports.get (otherPort p) = s.ports.get (otherPort p)

/-- A write command is executed only when its Frame holds exactly its parameter bytes; any other Frame is
BAD_FRAME and changes nothing but its port (R172). A read command that ended before its last parameter byte was
complete is BAD_FRAME and changes nothing but its port (Table 9.1 step 6). -/
def Obligations.ParametersAreWhole : Prop :=
  ∀ (i : Instr) (p : Port) (f : Frame) (n : Nat) (s : State), s.takes p f →
    (writeCommand i = some (p, f, n) → f.edges ≠ n * (s.timingOf p f).lanes.edgesPerByte →
      exec i s = .next (s.afterWrite p f .badFrame)) ∧
    (readCommand i = some (p, f, n) → f.edges < n * (s.timingOf p f).lanes.edgesPerByte →
      exec i s = .next (s.afterWrite p f .badFrame))

/-! ### Read commands whose data is taken whole -/

/-- STATUS, READ_EVENTS, READ_HOLDS, READ_PLAN, READ_TRACKS, READ_LINKS and READ_SETTING shift out their data as
it stands and then 00H, change nothing but their port, and are OK exactly when the Frame ends on a byte
boundary; READ_SETTING of an identifier that names no setting is RANGE with 00H (R173, R178, R183, R120, R31,
R56, R14, R189). What goes out in a read Frame is the Result byte, the parameter bytes as 00H at lane width 1
and undriven at 4, the data and then 00H, and so are the bits of a part byte at its end; in a write Frame it is
the Result byte and then 00H at lane width 1 and nothing at 4 (R167, R168, R169; the last, where a host clocks
beyond the parameters, is the model's choice, log entry 31). That the data is that of the state at the row is
R173's start of the data only where the row stands there, the model's choice (log entry 11). -/
def Obligations.PlainReads : Prop :=
  (∀ (p : Port) (f : Frame) (s : State) (n : Nat) (data : List Byte) (r : Result),
    let w := (s.timingOf p f).lanes
    let k := f.edges / w.edgesPerByte
    let bits := f.edges % w.edgesPerByte * w.bitsPerEdge
    let idle : Option Byte := match w with
      | .one => some 0
      | .four => none
    (n ≤ k → (s.afterRead p f n data r).ports = s.ports.set p { s.ports.get p with
      result := r
      out := some (resultCode (s.ports.get p).result) :: (List.range k).map (repliedByte w n data)
      part := (List.range bits).map fun j => (repliedByte w n data k).map fun x => x.getLsbD (7 - j)
      ended := none }) ∧
    (s.afterWrite p f r).ports = s.ports.set p { s.ports.get p with
      result := r
      out := some (resultCode (s.ports.get p).result) :: List.replicate k idle
      part := List.replicate bits (idle.map fun _ => false)
      ended := none }) ∧
  ∀ (p : Port) (f : Frame) (s : State), s.takes p f →
    let r := if f.edges % (s.timingOf p f).lanes.edgesPerByte = 0 then Result.ok else .badFrame
    exec (.status p f) s = .next (s.afterRead p f 0 (s.statusData p) r) ∧
    exec (.readEvents p f) s = .next (s.afterRead p f 0 (s.eventData p) r) ∧
    exec (.readHolds p f) s = .next (s.afterRead p f 0 (s.holdData p) r) ∧
    exec (.readPlan p f) s = .next (s.afterRead p f 0 s.planData r) ∧
    exec (.readTracks p f) s = .next (s.afterRead p f 0 (s.trackData p) r) ∧
    exec (.readLinks p f) s = .next (s.afterRead p f 0 s.linkData r) ∧
    ∀ id : Nat, 2 * (s.timingOf p f).lanes.edgesPerByte ≤ f.edges →
      f.bytes (s.timingOf p f).lanes 2 = le 2 id → id < 65536 →
      (settingOf id = none → exec (.readSetting p f) s = .next (s.afterRead p f 2 [] .range)) ∧
      ∀ x, settingOf id = some x →
        exec (.readSetting p f) s = .next (s.afterRead p f 2 (leSigned 4 (s.settingValue x)) r)

/-- Responses, Block headers and Mark entries have the lengths of chapter 12, and every field of STATUS,
READ_EVENTS, READ_LINKS, READ_PLAN, READ_TRACKS, READ_HOLDS, a Block header, a track entry and a Mark entry
stands at its position in Tables 12.3, 12.4, 12.5 and 12.7, least significant byte first (R198, R199, R200,
R202). That bits 5 to 7 of STATUS byte 59 and of a Mark entry's flag byte are 0 is the model's choice (log
entry 34). -/
def Obligations.ResponseLayouts : Prop :=
  (∀ (s : State) (p : Port), (s.statusData p).length = 73 ∧ (s.eventData p).length = 6 ∧
    s.linkData.length = 35 ∧ s.planData.length = 109 ∧ (s.trackData p).length = 393 ∧
    (s.holdData p).length = 88) ∧
  (∀ (b : Block) (x : Access), (b.bytes x false).length = 256 ∧
    (b.bytes x true).length = 256 + b.bodyLength) ∧
  (∀ (m : Mark) (x : Access), (m.bytes x).length = 32) ∧
  (∀ (s : State) (p : Port),
    let d := s.statusData p
    let r := s.readers.get p
    d.getD 0 0 = stateCode s.proc.state ∧ d.getD 1 0 = targetCode s.proc.target ∧
    fieldAt d 2 2 = s.proc.session % 65536 ∧ d.getD 4 0 = flagByte s.proc.verify ∧
    fieldAt d 5 6 = s.proc.clock % 2 ^ 48 ∧ fieldAt d 11 4 = s.proc.periods % 2 ^ 32 ∧
    fieldAt d 15 5 = s.ring.next % 2 ^ 40 ∧ fieldAt d 20 2 = s.ring.blocks.length % 65536 ∧
    fieldAt d 22 4 = (match s.ring.gap with | none => 0 | some g => g.count % 2 ^ 32) ∧
    fieldAt d 26 2 = s.marks.marks.length % 65536 ∧ fieldAt d 28 6 = s.marks.next % 2 ^ 48 ∧
    fieldAt d 34 4 = s.marks.lost % 2 ^ 32 ∧ d.getD 38 0 = flagByte s.store.isSome ∧
    d.getD 39 0 = guardCode s.settings.guarded.mode ∧ d.getD 40 0 = clockSourceCode s.sourceInUse ∧
    d.getD 41 0 = readerStateCode r.state ∧ d.getD 42 0 = retentionCode r.retention ∧
    fieldAt d 43 5 = r.read % 2 ^ 40 ∧ fieldAt d 48 5 = r.release % 2 ^ 40 ∧
    fieldAt d 53 6 = r.mark % 2 ^ 48 ∧
    (d.getD 59 0).getLsbD 0 = r.flags.avail ∧ (d.getD 59 0).getLsbD 1 = r.flags.empty ∧
    (d.getD 59 0).getLsbD 2 = r.flags.half ∧ (d.getD 59 0).getLsbD 3 = r.flags.lagWarn ∧
    (d.getD 59 0).getLsbD 4 = r.flags.atFloor ∧ (d.getD 59 0).toNat < 32 ∧
    fieldAt d 60 4 = r.skipped % 2 ^ 32 ∧ fieldAt d 64 4 = r.missed % 2 ^ 32 ∧
    d.getD 68 0 = flagByte (decide (r.pair = .complete)) ∧
    fieldAt d 69 2 = r.availLevel % 65536 ∧ fieldAt d 71 2 = r.lagLevel % 65536) ∧
  (∀ (s : State) (p : Port),
    let d := s.eventData p
    fieldAt d 0 2 = (s.events.get p).flags.toNat ∧ fieldAt d 2 2 = (s.events.get p).mask.toNat ∧
    d.getD 4 0 = flagByte (s.attention p) ∧
    d.getD 5 0 = flagByte (decide ((s.readers.get p).pair = .complete))) ∧
  (∀ s : State,
    let d := s.linkData
    (∀ i : Fin 8, d.getD (4 * i.val) 0 = linkStateCode s.links[i].state ∧
      d.getD (4 * i.val + 1) 0 = flagByte s.settings.general.linkEnable[i] ∧
      fieldAt d (4 * i.val + 2) 2 = s.links[i].badFrames % 65536) ∧
    d.getD 32 0 = clockSourceCode s.settings.general.source ∧ d.getD 33 0 = clockSourceCode s.sourceInUse ∧
    d.getD 34 0 = (match s.changes.source with | none => 0xFF | some x => clockSourceCode x)) ∧
  (∀ s : State,
    let d := s.planData
    let holds := fun (at' : Nat) (plan : Plan) =>
      d.getD at' 0 = (match plan.width with | .w16 => 16 | .w24 => 24) ∧
      d.getD (at' + 1) 0 = BitVec.ofNat 8 plan.total ∧
      ∀ e : Fin 16, (d.drop (at' + 2 + 3 * e.val)).take 3 = match plan.entries[e] with
        | none => [0, 0, 0]
        | some g => [modeCode g.mode, BitVec.ofNat 8 g.first, BitVec.ofNat 8 g.count]
    holds 0 s.plans.pendingPlan ∧ fieldAt d 50 2 = s.plans.editCount.toNat ∧
    d.getD 52 0 = portOrNone s.plans.lastEditor ∧ holds 53 s.settings.general.plan ∧
    fieldAt d 103 2 = s.plans.generation.toNat ∧
    d.getD 105 0 = BitVec.ofNat 8 s.settings.general.plan.trackCount ∧
    fieldAt d 106 2 = s.settings.general.plan.bodyLength % 65536 ∧
    d.getD 108 0 = flagByte s.plans.armed.isSome) ∧
  (∀ (s : State) (p : Port),
    let d := s.trackData p
    let denied := s.settings.guarded.access.get p = .denied
    let hidden := denied ∧ (s.tracks.restrictedClip = true ∨
      (s.proc.state ≠ .closed ∧ s.proc.restricted = true ∧ s.proc.verify = false))
    (∀ k : Fin 32, fieldAt d (6 * k.val) 2 = s.settings.general.gain[k] % 65536 ∧
      fieldAt d (6 * k.val + 2) 2 = (match s.changes.gain[k] with | none => 65535 | some v => v % 65536) ∧
      (hidden → fieldAt d (6 * k.val + 4) 2 = 0) ∧
      (¬hidden → fieldAt d (6 * k.val + 4) 2 = s.tracks.clips[k] % 65536)) ∧
    (d.getD 192 0 = 1 ↔ hidden) ∧ (d.getD 192 0 = 0 ↔ ¬hidden) ∧
    (s.tracks.last = none → d.getD 197 0 = 0xFF ∧ d.getD 198 0 = 0 ∧ d.getD 199 0 = 0xFF ∧
      d.drop 200 = List.replicate 193 0) ∧
    ∀ l, s.tracks.last = some l →
      let withheld := l.cls = .restricted ∧ denied
      fieldAt d 193 4 = l.period % 2 ^ 32 ∧ d.getD 197 0 = classCode l.cls ∧
      d.getD 198 0 = BitVec.ofNat 8 l.entries.length ∧
      (withheld → d.getD 199 0 = 0xFF ∧ d.getD 200 0 = 1 ∧
        d.drop 201 = entryBytes (l.entries.map fun e => ⟨e.source, .quiet, 0, 0⟩)) ∧
      (¬withheld → d.getD 199 0 = trackOrNone l.holder ∧ d.getD 200 0 = 0 ∧
        d.drop 201 = entryBytes l.entries)) ∧
  (∀ (s : State) (p : Port),
    let d := s.holdData p
    d.getD 0 0 = entryOrNone (s.ring.lastPlaced.get p) ∧ fieldAt d 1 5 = s.ring.next % 2 ^ 40 ∧
    fieldAt d 6 2 = s.ring.blocks.length % 65536 ∧
    ∀ e : Fin 8, (s.ring.holds[e] = none → d.getD (8 + 10 * e.val) 0 = 0xFF) ∧
      ∀ h, s.ring.holds[e] = some h → d.getD (8 + 10 * e.val) 0 = portCode h.owner ∧
        d.getD (9 + 10 * e.val) 0 = retentionCode (some h.cls) ∧
        fieldAt d (10 + 10 * e.val) 4 = h.first % 2 ^ 32 ∧
        fieldAt d (14 + 10 * e.val) 4 = h.last % 2 ^ 32) ∧
  (∀ (b : Block) (x : Access),
    let d := b.bytes x false
    let withheld := b.cls = .restricted ∧ x = .denied
    d.getD 0 0 = kindCode b.kind ∧ d.getD 1 0 = classCode b.cls ∧
    d.getD 2 0 = (match b.width with | .w16 => 16 | .w24 => 24) ∧
    d.getD 3 0 = BitVec.ofNat 8 b.trackCount ∧ fieldAt d 4 4 = b.sequence % 2 ^ 32 ∧
    fieldAt d 8 2 = b.session % 65536 ∧ fieldAt d 10 2 = b.generation.toNat ∧
    fieldAt d 12 6 = b.time % 2 ^ 48 ∧ fieldAt d 18 4 = b.covered % 2 ^ 32 ∧
    fieldAt d 22 2 = b.bodyLength % 65536 ∧ fieldAt d 26 6 = b.spanEnd % 2 ^ 48 ∧
    (d.drop 32).take 32 = List.replicate 32 0 ∧
    (withheld → d.getD 24 0 = 0xFF ∧ d.getD 25 0 = 1 ∧
      d.drop 64 = entryBytes (b.entries.map fun e => ⟨e.source, .quiet, 0, 0⟩)) ∧
    (¬withheld → d.getD 24 0 = trackOrNone b.holder ∧ d.getD 25 0 = 0 ∧ d.drop 64 = entryBytes b.entries) ∧
    (b.bytes x true).take 256 = d ∧
    (withheld → (b.bytes x true).drop 256 = List.replicate b.bodyLength 0) ∧
    (¬withheld → (b.bytes x true).drop 256 = padTo b.bodyLength (b.body.flatMap fun xs =>
      xs.flatMap fun v => leSigned (match b.width with | .w16 => 2 | .w24 => 3) v))) ∧
  (∀ (es : List TrackEntry) (k : Nat) (e : TrackEntry), k < 32 → es[k]? = some e →
    let d := entryBytes es
    d.getD (6 * k) 0 = sourceCode e.source ∧ d.getD (6 * k + 1) 0 = activityCode e.activity ∧
    fieldAt d (6 * k + 2) 2 = e.clips % 65536 ∧ fieldAt d (6 * k + 4) 2 = e.peak % 65536) ∧
  ∀ (m : Mark) (x : Access),
    let d := m.bytes x
    let withheld := m.restricted = true ∧ x = .denied
    fieldAt d 0 6 = m.serial % 2 ^ 48 ∧ d.getD 6 0 = markKindCode m.kind ∧ d.getD 7 0 = partyCode m.origin ∧
    fieldAt d 8 6 = m.time % 2 ^ 48 ∧
    fieldAt d 14 4 = (match m.block with | none => 0 | some q => q % 2 ^ 32) ∧
    (¬withheld → fieldAt d 18 2 = m.arg.toNat ∧
      fieldAt d 20 4 = (match m.tag with | none => 0 | some t => t.toNat)) ∧
    (withheld → fieldAt d 18 6 = 0) ∧
    (d.getD 24 0).getLsbD 0 = m.restricted ∧ (d.getD 24 0).getLsbD 1 = m.clamped ∧
    (d.getD 24 0).getLsbD 2 = m.block.isSome ∧ (d.getD 24 0).getLsbD 3 = m.tag.isSome ∧
    ((d.getD 24 0).getLsbD 4 = true ↔ withheld) ∧ (d.getD 24 0).toNat < 32 ∧
    d.drop 25 = List.replicate 7 0

/-! ### Events and PORT_RESET -/

/-- ACK_EVENTS clears the named Event Flags of its port, SET_MASK replaces its Mask, both are OK for every
value and change nothing else but their port; the Attention line follows: asserted exactly while a flag
selected by the Mask is set and the Level Pair is complete (R184, R185, R186). -/
def Obligations.EventCommands : Prop :=
  ∀ (p : Port) (f : Frame) (v : BitVec 16) (s : State), s.takes p f → s.hears p f (le 2 v.toNat) →
    (∃ t, exec (.ackEvents p f) s = .next t ∧
      t = { s.afterWrite p f .ok with
        events := s.events.set p ⟨(s.events.get p).flags &&& ~~~v, (s.events.get p).mask⟩ } ∧
      t.attention p = (decide ((s.events.get p).flags &&& ~~~v &&& (s.events.get p).mask ≠ 0) &&
        decide ((s.readers.get p).pair = .complete))) ∧
    ∃ t, exec (.setMask p f) s = .next t ∧
      t = { s.afterWrite p f .ok with events := s.events.set p ⟨(s.events.get p).flags, v⟩ } ∧
      t.attention p = (decide ((s.events.get p).flags &&& v ≠ 0) &&
        decide ((s.readers.get p).pair = .complete))

/-- PORT_RESET is always OK: it clears the port's flags, Mask and Store Latch, detaches its Reader with the
cursors kept and everything else at its starting value, removes every Hold the port owns, and then lets a
waiting Gap and lost Marks be stored (R179, R149, R121). That the GAP Block comes before the MARKS_LOST Mark no rule
says: it is the model's choice (log entry 24). -/
def Obligations.PortReset : Prop :=
  ∀ (p : Port) (f : Frame) (s : State), s.takes p f → f.edges = 0 → ∃ u : State,
    exec (.portReset p f) s = .next ((u.drainGap.drainLost).setResult p .ok) ∧
    u = { s with events := u.events, ports := u.ports, readers := u.readers, ring := u.ring } ∧
    u.events = s.events.set p ⟨0, 0⟩ ∧
    u.ports = s.ports.set p ⟨.ok, false, s.resultOut p, [], none⟩ ∧
    u.readers = s.readers.set p { startReader with
      read := (s.readers.get p).read
      release := (s.readers.get p).release
      mark := (s.readers.get p).mark } ∧
    u.ring = { s.ring with holds := u.ring.holds, lastPlaced := s.ring.lastPlaced.set p none } ∧
    ∀ e : Fin 8, u.ring.holds[e] = match s.ring.holds[e] with
      | none => none
      | some h => if h.owner = p then none else some h

/-! ### Reader Contexts -/

/-- ATTACH: RANGE, THRESHOLDS and ALREADY in that order, each changing nothing but the port; else OK, with the
retention snapshot, the cursors of Table 7.2, counts 0, FOLLOWING and the flags evaluated (R126). DETACH: ALREADY
in DETACHED; else OK, with the snapshot gone, cursors and counts kept, flags clear without an event, and then the
re-counts of R116 and R162 (R127). That the re-count of R116 comes before that of R162, and so a GAP Block before
the MARKS_LOST Mark, no rule says: it is the model's choice (log entry 24). -/
def Obligations.AttachAndDetach : Prop :=
  (∀ (p : Port) (f : Frame) (c : Byte) (s : State), s.takes p f → s.hears p f [c] →
    (c.toNat > 1 → exec (.attach p f) s = .next (s.afterWrite p f .range)) ∧
    (c.toNat ≤ 1 → (s.readers.get p).pair ≠ .complete →
      exec (.attach p f) s = .next (s.afterWrite p f .thresholds)) ∧
    (c.toNat ≤ 1 → (s.readers.get p).pair = .complete → (s.readers.get p).state ≠ .detached →
      exec (.attach p f) s = .next (s.afterWrite p f .already)) ∧
    (c.toNat ≤ 1 → (s.readers.get p).pair = .complete → (s.readers.get p).state = .detached →
      exec (.attach p f) s = .next (((State.setReader (s.shifted p f) p { s.readers.get p with
        state := .following
        retention := some (s.settings.guarded.retention.get p)
        read := if c = 1 then s.ring.next else s.ring.next - s.ring.blocks.length
        release := if c = 1 then s.ring.next else s.ring.next - s.ring.blocks.length
        mark := if c = 1 then s.marks.next else s.marks.next - s.marks.marks.length
        skipped := 0
        missed := 0
        flags := clearFlags }).evaluate p).setResult p .ok))) ∧
  ∀ (p : Port) (f : Frame) (s : State), s.takes p f → f.edges = 0 →
    ((s.readers.get p).state = .detached → exec (.detach p f) s = .next (s.afterWrite p f .already)) ∧
    ((s.readers.get p).state ≠ .detached → exec (.detach p f) s =
      .next (((State.setReader (s.shifted p f) p { s.readers.get p with
        state := .detached, retention := none, flags := clearFlags }).drainGap.drainLost).setResult p .ok))

/-- The evaluation of a Reader's flags: the five flags of Table 7.3, AVAIL and LAG set on its own port exactly
when AVAIL and LAG_WARN rise, CUT left for FOLLOWING when HALF is clear, and nothing else changed (R128 to
R131, R133). -/
def Obligations.ReaderEvaluation : Prop :=
  ∀ (s : State) (p : Port),
    let t := s.evaluate p
    let x := s.readers.get p
    let y := t.readers.get p
    let attached := x.state ≠ .detached
    let held := s.ring.next - x.release
    t = { s with readers := t.readers, events := t.events } ∧
    t.readers.get (otherPort p) = s.readers.get (otherPort p) ∧
    t.events.get (otherPort p) = s.events.get (otherPort p) ∧
    y = { x with flags := y.flags, state := y.state } ∧
    (y.flags.avail ↔ attached ∧ x.pair = .complete ∧ s.ring.next - x.read > x.availLevel) ∧
    (y.flags.empty ↔ attached ∧ s.ring.next - x.read = 0) ∧
    (y.flags.half ↔ attached ∧ held ≥ 4096) ∧
    (y.flags.lagWarn ↔ attached ∧ x.pair = .complete ∧ held + x.lagLevel ≥ 8192) ∧
    (y.flags.atFloor ↔ attached ∧ held = 8192) ∧
    y.state = (if x.state = .cut ∧ held < 4096 then .following else x.state) ∧
    (t.events.get p).mask = (s.events.get p).mask ∧
    (t.events.get p).flags = (s.events.get p).flags |||
      (if y.flags.avail ∧ ¬x.flags.avail then eventMask .avail else 0) |||
      (if y.flags.lagWarn ∧ ¬x.flags.lagWarn then eventMask .lag else 0)

/-- SET_AVAIL_LEVEL and SET_LAG_LEVEL take a level, one above 8191 as 8191 with CLAMPED, move the pair state as
Table 7.4 gives, and have the flags evaluated (R132, R133). -/
def Obligations.LevelPair : Prop :=
  ∀ (p : Port) (f : Frame) (v : Nat) (s : State), s.takes p f → v < 65536 → s.hears p f (le 2 v) →
    let x := s.readers.get p
    exec (.setAvailLevel p f) s = .next (((State.setReader (s.shifted p f) p { x with
      availLevel := if v > 8191 then 8191 else v
      pair := match x.pair with
        | .complete => .awaitingLag
        | .awaitingLag => .awaitingLag
        | .awaitingAvail => .complete }).evaluate p).setResult p (if v > 8191 then .clamped else .ok)) ∧
    exec (.setLagLevel p f) s = .next (((State.setReader (s.shifted p f) p { x with
      lagLevel := if v > 8191 then 8191 else v
      pair := match x.pair with
        | .complete => .awaitingAvail
        | .awaitingLag => .complete
        | .awaitingAvail => .awaitingAvail }).evaluate p).setResult p (if v > 8191 then .clamped else .ok))

/-- RELEASE: NOT_ATTACHED, ALREADY, OK and CLAMPED as R140 gives them, the flags evaluated and a waiting Gap
re-counted after a change (R140, R116). SEEK: NOT_ATTACHED, RELEASED below the Oldest, RANGE above N, else OK: the
Read Cursor becomes the Sequence, the Release Cursor the lower of the two, and the flags are evaluated (R141). -/
def Obligations.ReleaseAndSeek : Prop :=
  (∀ (p : Port) (f : Frame) (q : Nat) (s : State), s.takes p f → q < 2 ^ 32 → s.hears p f (le 4 q) →
    let x := s.readers.get p
    (x.state = .detached → exec (.release p f) s = .next (s.afterWrite p f .notAttached)) ∧
    (x.state ≠ .detached → q + 1 ≤ x.release →
      exec (.release p f) s = .next (s.afterWrite p f .already)) ∧
    (x.state ≠ .detached → x.release < q + 1 → q + 1 ≤ x.read → exec (.release p f) s =
      .next (((State.setReader (s.shifted p f) p { x with release := q + 1 }).evaluate
        p).drainGap.setResult p .ok)) ∧
    (x.state ≠ .detached → x.release < q + 1 → x.read < q + 1 → exec (.release p f) s =
      .next (((State.setReader (s.shifted p f) p { x with release := x.read }).evaluate
        p).drainGap.setResult p .clamped))) ∧
  ∀ (p : Port) (f : Frame) (q : Nat) (s : State), s.takes p f → q < 2 ^ 40 → s.hears p f (le 5 q) →
    let x := s.readers.get p
    let oldest := s.ring.next - s.ring.blocks.length
    (x.state = .detached → exec (.seek p f) s = .next (s.afterWrite p f .notAttached)) ∧
    (x.state ≠ .detached → q < oldest → exec (.seek p f) s = .next (s.afterWrite p f .released)) ∧
    (x.state ≠ .detached → oldest ≤ q → s.ring.next < q →
      exec (.seek p f) s = .next (s.afterWrite p f .range)) ∧
    (x.state ≠ .detached → oldest ≤ q → q ≤ s.ring.next → exec (.seek p f) s =
      .next (((State.setReader (s.shifted p f) p { x with
        read := q, release := if q < x.release then q else x.release }).evaluate p).setResult p .ok))

/-- READ_BLOCK: RANGE, then NOT_ATTACHED; PARTIAL before its data phase; else a transfer is in flight that
delivers the stored Block at the Read Cursor, or with nothing to read the empty reply (R134, R135, R136,
R174). -/
def Obligations.ReadBlockBegins : Prop :=
  ∀ (p : Port) (f : Frame) (s : State), s.takes p f →
    let m := s.timingOf p f
    let c := f.byteAt m.lanes 0
    let x := s.readers.get p
    let start := (1 + m.latency.bytes) * m.lanes.edgesPerByte
    m.lanes.edgesPerByte ≤ f.edges →
    (c.toNat > 1 → exec (.readBlock p f) s = .next (s.afterRead p f 1 [] .range)) ∧
    (c.toNat ≤ 1 → x.state = .detached →
      exec (.readBlock p f) s = .next (s.afterRead p f 1 [] .notAttached)) ∧
    (c.toNat ≤ 1 → x.state ≠ .detached → f.edges ≤ start →
      exec (.readBlock p f) s = .next (s.afterRead p f 1 [] .partialRead)) ∧
    (c.toNat ≤ 1 → x.state ≠ .detached → start < f.edges → ∃ d payload,
      exec (.readBlock p f) s = .next (State.setReader
        (s.setOut p (s.resultOut p ++ readOut m.lanes 1 [] (1 + m.latency.bytes)) []) p
        { x with flight := some ⟨d, payload, m.lanes, f.edges - start, none⟩ }) ∧
      (s.ring.next - x.read = 0 → d = .emptyReply ∧ payload = List.replicate 256 0) ∧
      ∀ b, s.ring.next - x.read > 0 → s.ring.blockAt x.read = some b →
        d = .block x.read ∧ payload = b.bytes (s.settings.guarded.access.get p) (decide (c = 1)))

/-- READ_BLOCK_END, on a transfer `t` with all its edges: an empty reply is EMPTY; an overtaken one is OVERTAKEN
with the cursors where they are; a complete one is OK, the Read Cursor adds one and the flags are evaluated;
any other is PARTIAL with the cursors where they are (R136, R137). The bytes of a transfer are those requested,
then 00H, and so are the bits of a part byte at its end; once it is overtaken, the bytes that were whole before
then as they were and every byte after as 00H; a byte beyond the requested length is 00H always (R135, R138, R142,
R144, R167). That the bits of the byte half out then that were already sent are its own is the model's choice (log
entry 13). -/
def Obligations.ReadBlockEnds : Prop :=
  (∀ (p : Port) (more : Nat) (t₀ : Transfer) (s : State), s.power = .running → s.resetLine = false →
    s.stage = .idle → (s.readers.get p).flight = some t₀ →
    let t := { t₀ with edges := t₀.edges + more }
    let whole := t.edges % t.lanes.edgesPerByte = 0 ∧ t.payload.length ≤ t.edges / t.lanes.edgesPerByte
    let read := (s.readers.get p).read
    (t.delivery = .emptyReply → exec (.readBlockEnd p more) s = .next (s.afterRise p t .empty)) ∧
    ∀ q, t.delivery = .block q →
      (t.overtaken.isSome → exec (.readBlockEnd p more) s = .next (s.afterRise p t .overtaken)) ∧
      (t.overtaken = none → whole → exec (.readBlockEnd p more) s =
        .next ((State.setReader (s.afterRise p t .ok) p
          { s.readers.get p with flight := none, read := read + 1 }).evaluate p)) ∧
      (t.overtaken = none → ¬whole → exec (.readBlockEnd p more) s = .next (s.afterRise p t .partialRead))) ∧
  ∀ t : Transfer,
    let clocked := t.edges / t.lanes.edgesPerByte
    t.dataOut.length = clocked ∧
    (∀ i, i < clocked → t.dataOut[i]? = some (some (t.byteOut i))) ∧
    t.partOut = ((List.range (t.edges % t.lanes.edgesPerByte * t.lanes.bitsPerEdge)).map fun j =>
      some ((t.byteOut clocked).getLsbD (7 - j))) ∧
    (t.overtaken = none → ∀ i, t.byteOut i = t.payload.getD i 0) ∧
    (∀ i, t.payload.length ≤ i → t.byteOut i = 0) ∧
    ∀ cut, t.overtaken = some cut → ∀ i,
      ((i + 1) * t.lanes.edgesPerByte ≤ cut → t.byteOut i = t.payload.getD i 0) ∧
      (cut ≤ i * t.lanes.edgesPerByte → t.byteOut i = 0) ∧
      (i = cut / t.lanes.edgesPerByte →
        ∀ j, j < cut % t.lanes.edgesPerByte * t.lanes.bitsPerEdge →
          (t.byteOut i).getLsbD (7 - j) = (t.payload.getD i 0).getLsbD (7 - j))

/-- READ_MARKS: RANGE for a maximum of 0 or above 16, then NOT_ATTACHED; PARTIAL before its data phase; else a
transfer is in flight of the lower of the maximum and the Marks that wait: a count byte, and then the 32-byte
entry of each Mark from the Mark Cursor on, in serial order, as the port's Restricted Access lets it be seen (R142,
R145, R174). READ_MARKS_END: EMPTY, OVERTAKEN, OK with the Mark Cursor past the Marks and the re-count of R162,
and PARTIAL (R143). -/
def Obligations.ReadMarks : Prop :=
  (∀ (p : Port) (f : Frame) (s : State), s.takes p f →
    let m := s.timingOf p f
    let c := (f.byteAt m.lanes 0).toNat
    let x := s.readers.get p
    let start := (1 + m.latency.bytes) * m.lanes.edgesPerByte
    m.lanes.edgesPerByte ≤ f.edges →
    (c = 0 ∨ c > 16 → exec (.readMarks p f) s = .next (s.afterRead p f 1 [] .range)) ∧
    (1 ≤ c → c ≤ 16 → x.state = .detached →
      exec (.readMarks p f) s = .next (s.afterRead p f 1 [] .notAttached)) ∧
    (1 ≤ c → c ≤ 16 → x.state ≠ .detached → f.edges ≤ start →
      exec (.readMarks p f) s = .next (s.afterRead p f 1 [] .partialRead)) ∧
    (1 ≤ c → c ≤ 16 → x.state ≠ .detached → start < f.edges → ∃ k payload,
      exec (.readMarks p f) s = .next (State.setReader
        (s.setOut p (s.resultOut p ++ readOut m.lanes 1 [] (1 + m.latency.bytes)) []) p
        { x with flight := some ⟨.marks x.mark k, payload, m.lanes, f.edges - start, none⟩ }) ∧
      k = min c (s.marks.next - x.mark) ∧ payload.length = 1 + 32 * k ∧
      payload.getD 0 0 = BitVec.ofNat 8 k ∧ s.markDelivery p c = (.marks x.mark k, payload) ∧
      (s.marks.wf → s.marks.oldest ≤ x.mark → x.mark ≤ s.marks.next →
        payload = BitVec.ofNat 8 k :: ((s.marks.marks.drop (x.mark - s.marks.oldest)).take k).flatMap
          fun m => m.bytes (s.settings.guarded.access.get p)))) ∧
  ∀ (p : Port) (more first k : Nat) (t₀ : Transfer) (s : State), s.power = .running →
    s.resetLine = false → s.stage = .idle → (s.readers.get p).flight = some t₀ →
    t₀.delivery = .marks first k →
    let t := { t₀ with edges := t₀.edges + more }
    let whole := t.edges % t.lanes.edgesPerByte = 0 ∧ t.payload.length ≤ t.edges / t.lanes.edgesPerByte
    (k = 0 → exec (.readMarksEnd p more) s = .next (s.afterRise p t .empty)) ∧
    (0 < k → t.overtaken.isSome →
      exec (.readMarksEnd p more) s = .next (s.afterRise p t .overtaken)) ∧
    (0 < k → t.overtaken = none → whole → exec (.readMarksEnd p more) s =
      .next (State.setReader (s.afterRise p t .ok) p { s.readers.get p with
        flight := none, mark := (s.readers.get p).mark + k }).drainLost) ∧
    (0 < k → t.overtaken = none → ¬whole →
      exec (.readMarksEnd p more) s = .next (s.afterRise p t .partialRead))

/-- No sample, Peak, Clip count, Activity State or Floor Holder of a RESTRICTED Block reaches a port whose
Restricted Access is DENIED: Blocks that agree on the fields of Table 7.5 shifted out as stored give the same
bytes; an OPEN or TEST Block is shifted out alike on both ports (R139). No argument of a RESTRICTED Mark of any
kind, nor the tag of one that carries a tag, reaches a DENIED port; any other Mark is shifted out alike on both
(R145). READ_TRACKS gives a DENIED port no Clip count while the restricted-clip indication is set or the Block in
Progress is to be classed RESTRICTED, nor any Peak, Clip count, Activity State or Floor Holder of a RESTRICTED last
Block (R58). -/
def Obligations.RestrictedContentWithheld : Prop :=
  (∀ (b c : Block) (whole : Bool), b.cls = .restricted →
    c = { b with holder := c.holder, entries := c.entries, body := c.body } →
    c.entries.map TrackEntry.source = b.entries.map TrackEntry.source →
    b.bytes .denied whole = c.bytes .denied whole) ∧
  (∀ (b : Block) (whole : Bool), b.cls ≠ .restricted → b.bytes .denied whole = b.bytes .granted whole) ∧
  (∀ (m : Mark) (arg : BitVec 16) (tag : BitVec 32), m.restricted = true →
    m.bytes .denied = ({ m with arg := arg, tag := m.tag.map fun _ => tag } : Mark).bytes .denied) ∧
  (∀ (m : Mark), m.restricted = false → m.bytes .denied = m.bytes .granted) ∧
  (∀ (s : State) (p : Port) (clips : Vector Nat 32), s.settings.guarded.access.get p = .denied →
    s.tracks.restrictedClip = true ∨
      (s.proc.state ≠ .closed ∧ s.proc.restricted = true ∧ s.proc.verify = false) →
    s.trackData p = State.trackData { s with tracks := { s.tracks with clips := clips } } p) ∧
  ∀ (x y : LastBlock), x.cls = .restricted → y.cls = .restricted → x.period = y.period →
    x.entries.map TrackEntry.source = y.entries.map TrackEntry.source →
    lastBytes .denied (some x) = lastBytes .denied (some y)

/-! ### Holds, notes and the Proceedings Controller -/

/-- PLACE_HOLD: RANGE, HOLD_SPAN and HOLD_FULL in that order; else OK: the lowest free entry takes the Hold with
the port's Retention Class, and is the port's last-placed entry (R118). DROP_HOLD: RANGE for a number above 7, a
free entry or another port's; else OK: the entry is free, the port's last-placed entry becomes NONE where it is that
one and stays where it is another, the other port's stays, and a waiting Gap is re-counted (R117, R119, R116). -/
def Obligations.PlaceAndDropHolds : Prop :=
  (∀ (p : Port) (f : Frame) (first last : Nat) (s : State), s.takes p f → first < 2 ^ 32 →
    last < 2 ^ 32 → s.hears p f (le 4 first ++ le 4 last) →
    let fits := s.ring.blocks ≠ [] ∧ s.ring.next - s.ring.blocks.length ≤ first ∧ first ≤ last ∧
      last + 1 ≤ s.ring.next
    (¬fits → exec (.placeHold p f) s = .next (s.afterWrite p f .range)) ∧
    (fits → last - first + 1 > 6144 → exec (.placeHold p f) s = .next (s.afterWrite p f .holdSpan)) ∧
    (fits → last - first + 1 ≤ 6144 → (∀ e : Fin 8, s.ring.holds[e] ≠ none) →
      exec (.placeHold p f) s = .next (s.afterWrite p f .holdFull)) ∧
    ∀ e : Fin 8, fits → last - first + 1 ≤ 6144 → s.ring.holds[e] = none →
      (∀ d : Fin 8, d < e → s.ring.holds[d] ≠ none) →
      exec (.placeHold p f) s = .next { s.afterWrite p f .ok with ring := { s.ring with
        holds := s.ring.holds.set e (some ⟨p, s.settings.guarded.retention.get p, first, last⟩)
        lastPlaced := s.ring.lastPlaced.set p (some e) } }) ∧
  ∀ (p : Port) (f : Frame) (c : Byte) (s : State), s.takes p f → s.hears p f [c] →
    (c.toNat > 7 → exec (.dropHold p f) s = .next (s.afterWrite p f .range)) ∧
    ∀ e : Fin 8, c.toNat = e.val →
      (s.ring.holds[e] = none → exec (.dropHold p f) s = .next (s.afterWrite p f .range)) ∧
      ∀ h, s.ring.holds[e] = some h →
        (h.owner ≠ p → exec (.dropHold p f) s = .next (s.afterWrite p f .range)) ∧
        (h.owner = p → ∃ u : State, exec (.dropHold p f) s = .next (u.drainGap.setResult p .ok) ∧
          u = { s.shifted p f with ring := { s.ring with
            holds := s.ring.holds.set e none, lastPlaced := u.ring.lastPlaced } } ∧
          (s.ring.lastPlaced.get p = some e → u.ring.lastPlaced.get p = none) ∧
          (s.ring.lastPlacedWf →
            (s.ring.lastPlaced.get p ≠ some e → u.ring.lastPlaced.get p = s.ring.lastPlaced.get p) ∧
            u.ring.lastPlaced.get (otherPort p) = s.ring.lastPlaced.get (otherPort p)))

/-- ADD_NOTE: RANGE, then STATE in CLOSED; else a NOTE Mark is asked for with the port as origin, the argument
and tag as given, and the time now, or the given time brought between the oldest stored Block's time and now,
with CLAMPED when it was moved (R156). -/
def Obligations.AddNote : Prop :=
  ∀ (p : Port) (f : Frame) (c : Byte) (time : Nat) (arg : BitVec 16) (tag : BitVec 32) (s : State),
    s.takes p f → time < 2 ^ 48 → s.hears p f (c :: (le 6 time ++ le 2 arg.toNat ++ le 4 tag.toNat)) →
    let now := s.proc.clock
    let bound := ((s.ring.blocks.head?).map Block.time).getD 0
    let note := fun (t : Nat) (moved : Bool) =>
      (State.requestMark (s.shifted p f) ⟨.note, partyOf p, t, arg, some tag, false, moved⟩).setResult p
        (if moved then .clamped else .ok)
    (c.toNat > 1 → exec (.addNote p f) s = .next (s.afterWrite p f .range)) ∧
    (c.toNat ≤ 1 → s.proc.state = .closed → exec (.addNote p f) s = .next (s.afterWrite p f .state)) ∧
    (c = 0 → s.proc.state ≠ .closed → exec (.addNote p f) s = .next (note now false)) ∧
    (c = 1 → s.proc.state ≠ .closed → bound ≤ time → time ≤ now →
      exec (.addNote p f) s = .next (note time false)) ∧
    (c = 1 → s.proc.state ≠ .closed → time < bound → bound ≤ now →
      exec (.addNote p f) s = .next (note bound true)) ∧
    (c = 1 → s.proc.state ≠ .closed → bound ≤ now → now < time →
      exec (.addNote p f) s = .next (note now true))

/-- OPEN_SESSION: RANGE, STATE and UNDRAINED in that order; else OK: OFF_RECORD with no target, the next session
number, the clock and the period count at 0, the verify flag as given, the record emptied, no gain, activity or floor
setting pending, attached Readers at the start of it with their retention and Level Pair kept, the SESSION_OPEN Mark
as serial 0 and STATE and MARK set on both ports; a READ_BLOCK or READ_MARKS in flight on the other port is overtaken,
but for an empty reply; a change of a Bench Line that has begun is from before the Session; the links, the clock, the
plans, the settings and the store are not reached (R80, R81, R82, R83, R95). -/
def Obligations.OpenSession : Prop :=
  ∀ (p : Port) (f : Frame) (c : Byte) (s : State), s.takes p f → s.hears p f [c] →
    let full := fun (x : Reader) => x.state ≠ .detached ∧ x.retention = some .binding ∧
      (s.ring.next - x.read > 0 ∨ x.mark < s.marks.next)
    let undrained := full s.readers.a ∨ full s.readers.b ∨ s.ring.gap ≠ none
    (c.toNat > 1 → exec (.openSession p f) s = .next (s.afterWrite p f .range)) ∧
    (c.toNat ≤ 1 → s.proc.state ≠ .closed → exec (.openSession p f) s = .next (s.afterWrite p f .state)) ∧
    (c.toNat ≤ 1 → s.proc.state = .closed → undrained →
      exec (.openSession p f) s = .next (s.afterWrite p f .undrained)) ∧
    (c.toNat ≤ 1 → s.proc.state = .closed → ¬undrained → ∃ t, exec (.openSession p f) s = .next t ∧
      t.ports = (s.afterWrite p f .ok).ports ∧
      t.proc.state = .offRecord ∧ t.proc.target = none ∧ t.proc.clock = 0 ∧ t.proc.periods = 0 ∧
      t.proc.session = (if s.proc.session < 65535 then s.proc.session + 1 else 1) ∧
      t.proc.verify = decide (c = 1) ∧ t.proc.restricted = false ∧
      t.ring = startRing ∧ t.inProgress = none ∧ t.floor = startFloor ∧ t.tracks = startTracks ∧
      t.activity = Vector.replicate 32 startActivity ∧
      t.marks.marks = [⟨0, .sessionOpen, partyOf p, 0, none, BitVec.ofNat 16 t.proc.session, none,
        false, false⟩] ∧ t.marks.next = 1 ∧ t.marks.lost = 0 ∧
      (∀ q : Port, (t.events.get q).flags =
        (s.events.get q).flags ||| eventMask .mark ||| eventMask .state) ∧
      (∀ q : Port, (s.readers.get q).state ≠ .detached → (t.readers.get q).state = .following ∧
        (t.readers.get q).read = 0 ∧ (t.readers.get q).release = 0 ∧ (t.readers.get q).mark = 0 ∧
        (t.readers.get q).skipped = 0 ∧ (t.readers.get q).missed = 0 ∧
        (t.readers.get q).retention = (s.readers.get q).retention ∧
        (t.readers.get q).availLevel = (s.readers.get q).availLevel ∧
        (t.readers.get q).lagLevel = (s.readers.get q).lagLevel ∧
        (t.readers.get q).pair = (s.readers.get q).pair ∧
        (t.readers.get q).flags.empty = true ∧ (t.readers.get q).flags.avail = false ∧
        ((s.readers.get q).flight = none → (t.readers.get q).flight = none) ∧
        ∀ g, (s.readers.get q).flight = some g → (t.readers.get q).flight = some
          (if g.delivery = .emptyReply then g
            else { g with overtaken := some (g.overtaken.getD g.edges) })) ∧
      (∀ k : Fin 32, t.changes.gain[k] = none ∧ t.changes.track[k] = ⟨none, none, none, none⟩) ∧
      t.changes.margin = none ∧ t.changes.challenge = none ∧
      (∀ l : Line, t.proc.lines.get l = { s.proc.lines.get l with
        early := (s.proc.lines.get l).early || decide ((s.proc.lines.get l).count > 0) }) ∧
      (∀ q : Port, (t.events.get q).mask = (s.events.get q).mask) ∧
      (∀ q : Port, (s.readers.get q).state = .detached → t.readers.get q = s.readers.get q) ∧
      t.links = s.links ∧ t.clockUnit = s.clockUnit ∧ t.plans = s.plans ∧ t.settings = s.settings ∧
      t.image = s.image ∧ t.store = s.store)

/-- CLOSE_SESSION: STATE in CLOSED, ALREADY with CLOSE pending, else OK with CLOSE pending from the port (R88).
SET_STATE: RANGE for a code that names no state, STATE in CLOSED and with CLOSE pending, and otherwise the
results and pending targets of Table 5.3, with the port as the origin of a target it sets (R84, R85, R86, R89); a
SIDEBAR in ON_RECORD without CLOSE pending is entered at once: OK, no pending target, the Block in Progress to be
classed RESTRICTED, a STATE Mark at the present clock value and STATE on both ports (R87). -/
def Obligations.StateRequests : Prop :=
  (∀ (p : Port) (f : Frame) (s : State), s.takes p f → f.edges = 0 →
    (s.proc.state = .closed → exec (.closeSession p f) s = .next (s.afterWrite p f .state)) ∧
    (∀ who, s.proc.state ≠ .closed → s.proc.target = some (.close, who) →
      exec (.closeSession p f) s = .next (s.afterWrite p f .already)) ∧
    (s.proc.state ≠ .closed → s.proc.target.map Prod.fst ≠ some .close →
      exec (.closeSession p f) s = .next { s.afterWrite p f .ok with
        proc := { s.proc with target := some (.close, partyOf p) } })) ∧
  (∀ (p : Port) (f : Frame) (c : Byte) (s : State), s.takes p f → s.hears p f [c] →
    (c.toNat = 0 ∨ c.toNat > 3 → exec (.setState p f) s = .next (s.afterWrite p f .range)) ∧
    ∀ wanted, (c = 1 ∧ wanted = .onRecord) ∨ (c = 2 ∧ wanted = .offRecord) ∨
        (c = 3 ∧ wanted = .sidebar) →
      (s.proc.state = .closed → exec (.setState p f) s = .next (s.afterWrite p f .state)) ∧
      (s.proc.target.map Prod.fst = some .close →
        exec (.setState p f) s = .next (s.afterWrite p f .state)) ∧
      ∀ row, requestTable s.proc.state (s.proc.target.map Prod.fst) s.proc.lines.privacy.level wanted =
          some row →
        exec (.setState p f) s = .next { s.afterWrite p f row.1 with
          proc := { s.proc with target := targetAfter s.proc.target row (partyOf p) } }) ∧
  ∀ (p : Port) (f : Frame) (s : State), s.takes p f → s.hears p f [3] → s.proc.state = .onRecord →
    s.proc.target.map Prod.fst ≠ some .close →
    exec (.setState p f) s = .next (State.setResult (State.raiseBoth (State.insertMark
      { s.shifted p f with
        proc := { s.proc with state := .sidebar, target := none, restricted := true } }
      ⟨.state, partyOf p, s.proc.clock, 3, none, false, false⟩) .state) p .ok)

/-! ### Plans, gains and settings -/

/-- PLAN_CLEAR vacates all sixteen entries and nothing else of the Pending Plan; PLAN_SET_GROUP is RANGE for an
entry above 15 or a code that is no mode, and else writes or vacates its entry; PLAN_SET_FORMAT is RANGE for a
width neither 16 nor 24, and else sets width and total; each accepted edit counts one, modulo 65,536, and names
its port (R27, R28, R29, R30). -/
def Obligations.PlanEdits : Prop :=
  ∀ (p : Port) (f : Frame) (s : State), s.takes p f →
    let edited := fun (plan : Plan) => { s.afterWrite p f .ok with plans := { s.plans with
      pendingPlan := plan, editCount := s.plans.editCount + 1, lastEditor := some p } }
    let old := s.plans.pendingPlan
    (f.edges = 0 → exec (.planClear p f) s =
      .next (edited { old with entries := Vector.replicate 16 none })) ∧
    (∀ e first count code : Byte, s.hears p f [e, first, count, code] →
      (e.toNat > 15 ∨ code.toNat > 4 →
        exec (.planSetGroup p f) s = .next (s.afterWrite p f .range)) ∧
      ∀ i : Fin 16, e.toNat = i.val → ∀ group,
        (code = 0 ∧ group = none) ∨ (code = 1 ∧ group = some ⟨.direct, first.toNat, count.toNat⟩) ∨
        (code = 2 ∧ group = some ⟨.sum, first.toNat, count.toNat⟩) ∨
        (code = 3 ∧ group = some ⟨.half, first.toNat, count.toNat⟩) ∨
        (code = 4 ∧ group = some ⟨.third, first.toNat, count.toNat⟩) →
        exec (.planSetGroup p f) s = .next (edited { old with entries := old.entries.set i group })) ∧
    ∀ w total : Byte, s.hears p f [w, total] →
      (w ≠ 16 → w ≠ 24 → exec (.planSetFormat p f) s = .next (s.afterWrite p f .range)) ∧
      (w = 16 → exec (.planSetFormat p f) s =
        .next (edited { old with width := .w16, total := total.toNat })) ∧
      (w = 24 → exec (.planSetFormat p f) s =
        .next (edited { old with width := .w24, total := total.toNat }))

/-- A plan passes validation exactly when it has a Group, every Group lies on Channels 0 to 31 with a defined
mode, every SUM Group has two to four Channels, no Channel lies in two Groups, its Tracks number its declared
total and at most 32, and its body fits a Slot; a plan that fails gets the code of the first of these that fails, in
this order: PLAN_EMPTY, PLAN_RANGE, PLAN_SUM_WIDTH, PLAN_OVERLAP, PLAN_TOTAL, PLAN_SIZE (R32, R33, Table 2.2). -/
def Obligations.PlanValidation : Prop :=
  ∀ plan : Plan,
    let filled := plan.groups ≠ []
    let ranged := ∀ g ∈ plan.groups, 1 ≤ g.count ∧ g.first + g.count ≤ 32 ∧ ∀ c, g.mode ≠ .undefined c
    let sums := ∀ g ∈ plan.groups, g.mode = .sum → 2 ≤ g.count ∧ g.count ≤ 4
    let apart := plan.groups.Pairwise (fun g h => ∀ c, ¬(c ∈ g.channels ∧ c ∈ h.channels))
    let total := plan.tracks.length = plan.total ∧ plan.total ≤ 32
    let fits := plan.bodyLength ≤ 32512
    (plan.fault = none ↔ filled ∧ ranged ∧ sums ∧ apart ∧ total ∧ fits) ∧
    (¬filled → plan.fault = some .planEmpty) ∧
    (filled → ¬ranged → plan.fault = some .planRange) ∧
    (filled → ranged → ¬sums → plan.fault = some .planSumWidth) ∧
    (filled → ranged → sums → ¬apart → plan.fault = some .planOverlap) ∧
    (filled → ranged → sums → apart → ¬total → plan.fault = some .planTotal) ∧
    (filled → ranged → sums → apart → total → ¬fits → plan.fault = some .planSize)

/-- ACTIVATE_PLAN: STALE for another edit count, the code of the failing check, STATE when the record is on or
about to come on; armed in OFF_RECORD; Active at once in CLOSED with a new generation, PLAN on both ports,
activity, Floor and Clip counts reset and no Mark (R34, R35, R36, R37, R38). -/
def Obligations.ActivatePlan : Prop :=
  ∀ (p : Port) (f : Frame) (v : BitVec 16) (s : State), s.takes p f → s.hears p f (le 2 v.toNat) →
    let plan := s.plans.pendingPlan
    let locked := s.proc.state = .onRecord ∨ s.proc.state = .sidebar ∨ (s.proc.state = .offRecord ∧
      (s.proc.target.map Prod.fst = some .onRecord ∨ s.proc.target.map Prod.fst = some .sidebar))
    (v ≠ s.plans.editCount → exec (.activatePlan p f) s = .next (s.afterWrite p f .stale)) ∧
    (∀ r, v = s.plans.editCount → plan.fault = some r →
      exec (.activatePlan p f) s = .next (s.afterWrite p f r)) ∧
    (v = s.plans.editCount → plan.fault = none → locked →
      exec (.activatePlan p f) s = .next (s.afterWrite p f .state)) ∧
    (v = s.plans.editCount → plan.fault = none → s.proc.state = .offRecord → ¬locked →
      exec (.activatePlan p f) s = .next { s.afterWrite p f .ok with
        plans := { s.plans with armed := some plan } }) ∧
    (v = s.plans.editCount → plan.fault = none → s.proc.state = .closed →
      exec (.activatePlan p f) s = .next ((State.raiseBoth { s.afterWrite p f .ok with
        settings := { s.settings with general := { s.settings.general with plan := plan } }
        plans := { s.plans with armed := none, generation := s.plans.generation + 1 }
        activity := Vector.replicate 32 startActivity
        floor := startFloor
        tracks := { s.tracks with clips := Vector.replicate 32 0, restrictedClip := false } } .plan)))

/-- SET_GAIN: RANGE for a Track number above 31; a code above 1023 is taken as 1023 with CLAMPED, any other as
given with OK; in CLOSED it takes effect at once, in an open Session it becomes the pending Gain Code (R53,
R54). -/
def Obligations.SetGain : Prop :=
  ∀ (p : Port) (f : Frame) (k : Byte) (v : Nat) (s : State), s.takes p f → v < 65536 →
    s.hears p f (k :: le 2 v) →
    let g := if v > 1023 then 1023 else v
    let r := if v > 1023 then Result.clamped else .ok
    (k.toNat > 31 → exec (.setGain p f) s = .next (s.afterWrite p f .range)) ∧
    ∀ i : Fin 32, k.toNat = i.val →
      (s.proc.state = .closed → exec (.setGain p f) s = .next { s.afterWrite p f r with
        settings := { s.settings with general := { s.settings.general with
          gain := s.settings.general.gain.set i g } } }) ∧
      (s.proc.state ≠ .closed → exec (.setGain p f) s = .next { s.afterWrite p f r with
        changes := { s.changes with gain := s.changes.gain.set i (some g) } })

/-- WRITE_SETTING: RANGE when the identifier names no writable setting, RANGE when the value lies outside the
setting's range, GUARDED when the setting is guarded and the Guard Mode refuses it (OPEN permits, KEYED permits
with KEY asserted, SESSION_LOCK and FIXED refuse), and otherwise OK with the value written (R190, R191). A written
setting reads back as written, and every other setting reads as before, in a state that has nothing pending unless
a Session is open (R189, R62, R20). A write reaches nothing but the settings and what waits, but for these: a
hangover written in CLOSED lowers a hang counter above it, and eligibility NO written in CLOSED for the Floor Holder
frees the Floor with FLOOR on both ports (R62); a source written in CLOSED puts the clock unit where R20 says, with
CLOCK on both ports when the source in use changes; a link turned off goes DOWN with its transition counts cleared,
its bad-frame counter and hold values kept (R10). A link turned on seeks from the next Sample
Period on (R10); that the present one's frame, where it has not come, is passed over as that of a link in DOWN is the
model's choice (log entry 25). -/
def Obligations.WriteSetting : Prop :=
  (∀ (p : Port) (f : Frame) (id v : Nat) (s : State), s.takes p f → id < 65536 → v < 2 ^ 32 →
    s.hears p f (le 2 id ++ le 4 v) →
    let guarded := fun (x : SettingName) =>
      (∃ q, x = .retention q) ∨ (∃ q, x = .access q) ∨ x = .guard
    let refuses := ¬(s.settings.guarded.mode = .opened ∨
      (s.settings.guarded.mode = .keyed ∧ s.proc.lines.key.level = true))
    (settingOf id = none → exec (.writeSetting p f) s = .next (s.afterWrite p f .range)) ∧
    ∀ x, settingOf id = some x →
      (¬x.accepts v → exec (.writeSetting p f) s = .next (s.afterWrite p f .range)) ∧
      (x.accepts v → guarded x → refuses →
        exec (.writeSetting p f) s = .next (s.afterWrite p f .guarded)) ∧
      (x.accepts v → ¬(guarded x ∧ refuses) → ∃ t, (s.shifted p f).written x v = some t ∧
        exec (.writeSetting p f) s = .next (t.setResult p .ok))) ∧
  ∀ (x : SettingName) (v : Nat) (s t : State), s.sessionOpen = true ∨ s.changes = noChanges →
    s.written x v = some t →
    t.settingValue x = x.shown v ∧ (∀ y, y ≠ x → t.settingValue y = s.settingValue y) ∧
    t.settings.general.plan = s.settings.general.plan ∧ t.settings.general.gain = s.settings.general.gain ∧
    t.changes.gain = s.changes.gain ∧
    let kept := { s with settings := t.settings, changes := t.changes }
    (s.sessionOpen = true → (∀ n, x ≠ .linkEnable n) → t = kept) ∧
    (s.sessionOpen = false → (∀ k, x ≠ .hangover k) → (∀ k, x ≠ .eligible k) → x ≠ .source →
      (∀ n, x ≠ .linkEnable n) → t = kept) ∧
    (∀ k, s.sessionOpen = false → x = .hangover k → t = { kept with
      activity := s.activity.set k
        (⟨s.activity[k].state, s.activity[k].attack, min s.activity[k].hang v⟩ : TrackActivity) }) ∧
    (∀ k, s.sessionOpen = false → x = .eligible k → v = 0 → s.floor.holder = some k →
      t = State.raiseBoth { kept with floor := ⟨none, none, 0⟩ } .floor) ∧
    (∀ k, s.sessionOpen = false → x = .eligible k → (v ≠ 0 ∨ s.floor.holder ≠ some k) → t = kept) ∧
    (s.sessionOpen = false → x = .source →
      t = { kept with clockUnit := { s.clockUnit with state := t.clockUnit.state }, events := t.events } ∧
      (v = 0 → t.clockUnit.state = .internal) ∧
      (v = 1 → s.clockUnit.state = .internal →
        t.clockUnit.state = if s.clockUnit.housePresent = 48000 then .house else .fallback) ∧
      (v = 1 → s.clockUnit.state ≠ .internal → t.clockUnit.state = s.clockUnit.state) ∧
      ∀ q : Port, (t.events.get q).mask = (s.events.get q).mask ∧ (t.events.get q).flags =
        if t.sourceInUse = s.sourceInUse then (s.events.get q).flags
        else (s.events.get q).flags ||| eventMask .clock) ∧
    ∀ n, x = .linkEnable n →
      (s.settings.general.linkEnable[n] = decide (v = 1) → t = s) ∧
      (s.settings.general.linkEnable[n] = true → v = 0 → t = { kept with
        links := s.links.set n { s.links[n] with
          state := .down, goodRun := 0, withoutGood := 0, seekStay := 0, slipStay := 0 } }) ∧
      (s.settings.general.linkEnable[n] = false → v = 1 → s.awaitsFrame n = false → t = kept) ∧
      (s.settings.general.linkEnable[n] = false → v = 1 → s.awaitsFrame n = true →
        t = { s.receiveLink n .absent with settings := t.settings, changes := t.changes })

/-- ENABLE_STORE sets its port's latch; DISABLE_STORE is BUSY while a store is in progress and else clears it;
STORE_SETTINGS is NO_ENABLE without the latch, BUSY during a store, and else begins a store of the settings in
effect, SESSION_LOCK as KEYED (R192, R193). STORE_COMPLETION writes the general part, and the guarded part unless
the Image's holds FIXED with a good check word, ends the store and clears the storing port's latch, and sets
STORE_DONE on that port unless RESET came between (R192, R193, R194). -/
def Obligations.Storing : Prop :=
  (∀ (p : Port) (f : Frame) (s : State), s.takes p f → f.edges = 0 →
    let latched := fun (b : Bool) => { s with ports := s.ports.set p ⟨.ok, b, s.resultOut p, [], none⟩ }
    exec (.enableStore p f) s = .next (latched true) ∧
    (s.store ≠ none → exec (.disableStore p f) s = .next (s.afterWrite p f .busy)) ∧
    (s.store = none → exec (.disableStore p f) s = .next (latched false)) ∧
    ((s.ports.get p).latch = false → exec (.storeSettings p f) s = .next (s.afterWrite p f .noEnable)) ∧
    ((s.ports.get p).latch = true → s.store ≠ none →
      exec (.storeSettings p f) s = .next (s.afterWrite p f .busy)) ∧
    ((s.ports.get p).latch = true → s.store = none → exec (.storeSettings p f) s =
      .next { s.afterWrite p f .ok with store := some ⟨p, s.settings.general,
        { s.settings.guarded with mode :=
          if s.settings.guarded.mode = .sessionLock then .keyed else s.settings.guarded.mode }, true⟩ })) ∧
  ∀ (s : State) (job : StoreJob), s.store = some job →
    let fixed := s.image.guarded.checkMatches = true ∧ s.image.guarded.content.mode = .fixed
    ∃ t, exec .storeCompletion s = .next t ∧
      t = { s with store := none, image := t.image, ports := t.ports, events := t.events } ∧
      t.image.general = ⟨true, true, job.general⟩ ∧
      (fixed → t.image.guarded = s.image.guarded) ∧
      (¬fixed → t.image.guarded = ⟨true, true, job.guarded⟩) ∧
      t.ports = s.ports.set job.port { s.ports.get job.port with latch := false } ∧
      t.events = if job.notify then s.events.set job.port { s.events.get job.port with
        flags := (s.events.get job.port).flags ||| eventMask .storeDone } else s.events

/-- Once the guarded part of the Image holds FIXED with a good check word, no command changes it: not a store,
not a power loss during one (R192, R194). -/
def Obligations.FixedForEver : Prop :=
  ∀ (c : Instr) (s t : State), s.image.guarded.checkMatches = true →
    s.image.guarded.content.mode = .fixed → exec c s = .next t → t.image.guarded = s.image.guarded

/-! ### Power and RESET -/

/-- POWER_ON always puts every block at its power-on value and begins the load: no Session, record, Mark, plan
waiting, pending setting, event, Mask, latch, Hold or Reader, the links DOWN, the internal clock, every Activity State
QUIET and the Floor free. POWER_LOSS always leaves the part without power. Both keep the Image but for a part that was
being written, which fails its check, and a general part that was complete by then, which is the new one (R15, R22,
R41, R59, R77, R100, R124, R149, R166, R180, R187, R194, R195). What is written when POWER_ON comes without a
POWER_LOSS, and the state without power, are the model's choice (log entry 17), and so are the settings and the plan
that stand until the load is complete (log entry 2), and the record of outputs (log entry 14). -/
def Obligations.PowerOnAndLoss : Prop :=
  let started := fun (s t : State) => t.pending = s.pending ∧ t.resetLine = s.resetLine ∧
    t.inPeriod = false ∧ t.stage = .idle ∧ t.frameSyncs = 0 ∧ t.store = none ∧
    (∀ i : Fin 8, t.links[i] = startLink) ∧ t.clockUnit = ⟨.internal, 0, 0, none⟩ ∧
    t.sourceInUse = .internal ∧ t.plans = ⟨defaultPlan, none, 0, none, 0⟩ ∧
    t.settings = defaultSettings ∧ t.changes = noChanges ∧
    (∀ k : Fin 32, t.activity[k] = ⟨.quiet, 0, 0⟩) ∧ t.floor = startFloor ∧
    t.ring = startRing ∧ t.marks = startMarks ∧ t.proc = startProceedings ∧ t.inProgress = none ∧
    t.tracks = startTracks ∧
    ∀ p, t.readers.get p = startReader ∧ t.ports.get p = ⟨.ok, false, [], [], none⟩ ∧
      t.events.get p = ⟨0, 0⟩ ∧ t.attention p = false
  let images := fun (h : ImageHalf) (s t : State) =>
    (s.store = none → t.image = s.image) ∧
    ∀ job, s.store = some job →
      let fixed := s.image.guarded.checkMatches = true ∧ s.image.guarded.content.mode = .fixed
      (h = .general ∨ fixed →
        t.image.general.checkMatches = false ∧ t.image.guarded = s.image.guarded) ∧
      (h = .guarded → ¬fixed →
        t.image.general = ⟨true, true, job.general⟩ ∧ t.image.guarded.checkMatches = false)
  (∀ s : State, ∃ t, exec .powerOn s = .next t ∧ t.power = .loading ∧ started s t ∧ images .general s t) ∧
  (∀ s : State, s.store = none → exec .powerOn s =
    .next { State.powered s.image with pending := s.pending, resetLine := s.resetLine }) ∧
  ∀ (h : ImageHalf) (s : State), ∃ t, exec (.powerLoss h) s = .next t ∧ t.power = .off ∧
    started s t ∧ images h s t

/-- SETTINGS_LOAD_COMPLETE loads each part of the Image that passes, and gives the other its factory defaults
with DEFAULTED on both ports; the Pending Plan is the Active Plan, and the clock starts by its source (R195, R22,
R40, R41). -/
def Obligations.LoadCompletes : Prop :=
  ∀ s : State, s.power = .loading → s.resetLine = false →
    let g := s.image.general
    let good := g.checkMatches = true ∧ g.codesDefined = true ∧ g.content.plan.fault = none ∧
      g.content.inRange = true
    let goodGuarded := s.image.guarded.checkMatches = true ∧ s.image.guarded.codesDefined = true
    ∃ t, exec .settingsLoadComplete s = .next t ∧
      t = { s with
        power := .running
        settings := t.settings
        plans := t.plans
        clockUnit := t.clockUnit
        events := t.events } ∧
      (good → t.settings.general = g.content) ∧ (¬good → t.settings.general = defaultGeneral) ∧
      (goodGuarded → t.settings.guarded = s.image.guarded.content) ∧
      (¬goodGuarded → t.settings.guarded = defaultGuarded) ∧
      t.plans = ⟨t.settings.general.plan, none, 0, none, 0⟩ ∧
      t.clockUnit = ⟨if t.settings.general.source = .house then .house else .internal, 0, 0, none⟩ ∧
      (good → goodGuarded → t.events = s.events) ∧
      (¬(good ∧ goodGuarded) → ∀ p, (t.events.get p).flags =
        (s.events.get p).flags ||| eventMask .defaulted)

/-- RESET_ASSERT, on a running part with no boundary open, and on one whose load is in progress, puts every block
at its starting value: the Session ends without a Mark, the record is emptied, events, Masks, latches, Bench Lines
and links start again, the Readers are detached, every Activity State is QUIET and the Floor is free (R15, R59, R77,
R100, R124, R149, R166, R180, R187, R196). Every pending setting is in effect and none waits, the clock unit starts
by the source setting in effect then (R22), the Active Plan is kept and is the Pending Plan, and every other setting
and the Image are kept (R41, R196). A store runs on without STORE_DONE (R194). In the load nothing is loaded while
RESET is asserted, and from the release the load runs again from its start (R195). RESET_RELEASE lets go with Result
OK on both ports (R170, R175, R180); a Frame in progress then is the matter of FramesInLoadAndReset. The Result OK
already at the assertion, and that the record of what a port has shifted out stays, with the bytes that are out of
a transfer that ends there (R149), is the model's choice (log entries 14 and 22). The Frame of such a transfer shifts
out 00H from the assertion to its rise, which its END row records, and nothing else comes of it (R175). -/
def Obligations.ResetLine : Prop :=
  (∀ s : State, s.power = .running ∧ s.stage = .idle ∨ s.power = .loading → s.resetLine = false →
    let g := s.settings.general
    let source := s.changes.source.getD g.source
    ∃ t, exec .resetAssert s = .next t ∧ t.resetLine = true ∧ t.power = s.power ∧
      t.inPeriod = false ∧ t.stage = .idle ∧ t.frameSyncs = s.frameSyncs ∧
      t.proc = startProceedings ∧ t.ring = startRing ∧ t.marks = startMarks ∧ t.inProgress = none ∧
      t.tracks = startTracks ∧ t.floor = startFloor ∧ t.changes = noChanges ∧
      (∀ k : Fin 32, t.activity[k] = ⟨.quiet, 0, 0⟩) ∧
      t.clockUnit = ⟨if source = .house then .house else .internal, 0, 0, none⟩ ∧
      t.sourceInUse = .internal ∧
      t.plans = ⟨g.plan, none, 0, none, 0⟩ ∧ t.image = s.image ∧
      t.settings.guarded = s.settings.guarded ∧ t.settings.general.plan = g.plan ∧
      t.settings.general.fill = g.fill ∧ t.settings.general.linkEnable = g.linkEnable ∧
      t.settings.general.timing = g.timing ∧
      (∀ k : Fin 32, t.settings.general.gain[k] = s.changes.gain[k].getD g.gain[k]) ∧
      (∀ k : Fin 32, t.settings.general.track[k] =
        ⟨(s.changes.track[k]).threshold.getD (g.track[k]).threshold,
          (s.changes.track[k]).attack.getD (g.track[k]).attack,
          (s.changes.track[k]).hangover.getD (g.track[k]).hangover,
          (s.changes.track[k]).eligible.getD (g.track[k]).eligible⟩) ∧
      t.settings.general.margin = s.changes.margin.getD g.margin ∧
      t.settings.general.challenge = s.changes.challenge.getD g.challenge ∧
      t.settings.general.source = source ∧
      (∀ i : Fin 8, t.links[i] = startLink) ∧
      (∀ p, t.readers.get p = startReader ∧ (t.ports.get p).result = .ok ∧
        (t.ports.get p).latch = false ∧
        t.events.get p = ⟨0, 0⟩ ∧ t.attention p = false ∧
        ((s.readers.get p).flight = none → (t.ports.get p).out = (s.ports.get p).out ∧
          (t.ports.get p).part = (s.ports.get p).part ∧ (t.ports.get p).ended = (s.ports.get p).ended) ∧
        ∀ x, (s.readers.get p).flight = some x →
          (t.ports.get p).out = (s.ports.get p).out ++ x.dataOut ∧ (t.ports.get p).part = x.partOut ∧
          (t.ports.get p).ended = some x) ∧
      t.store = s.store.map fun job => { job with notify := false }) ∧
  (∀ s : State, s.resetLine = true → exec .settingsLoadComplete s = .next s ∧ exec .resetAssert s = .next s) ∧
  (∀ s : State, s.resetLine = true → ∃ t, exec .resetRelease s = .next t ∧
    t = { s with resetLine := false, ports := t.ports } ∧
    t.ports.a = { s.ports.a with result := .ok } ∧ t.ports.b = { s.ports.b with result := .ok }) ∧
  (∀ s : State, s.resetLine = true → s.power = .loading →
    ∃ t u, exec .resetRelease s = .next t ∧ exec .settingsLoadComplete t = .next u ∧
      t.power = .loading ∧ t.image = s.image ∧ u.power = .running ∧ u.settings = s.image.loaded ∧
      u.plans = ⟨s.image.loaded.general.plan, none, 0, none, 0⟩) ∧
  ∀ (p : Port) (more : Nat) (x : Transfer) (s : State), (s.ports.get p).ended = some x →
    (s.readers.get p).flight = none →
    let whole := x.edges / x.lanes.edgesPerByte
    let bits := x.edges % x.lanes.edgesPerByte * x.lanes.bitsPerEdge
    let total := x.edges + more
    let own := x.byteOut whole
    ∃ out part,
      ((∀ first count, x.delivery ≠ .marks first count) → exec (.readBlockEnd p more) s =
        .next (s.setOut p ((s.ports.get p).out ++ out) part)) ∧
      (∀ first count, x.delivery = .marks first count → exec (.readMarksEnd p more) s =
        .next (s.setOut p ((s.ports.get p).out ++ out) part)) ∧
      out.length = total / x.lanes.edgesPerByte - whole ∧
      part.length = total % x.lanes.edgesPerByte * x.lanes.bitsPerEdge ∧
      (∀ n < out.length, ∃ v : Byte, out[n]? = some (some v) ∧
        ∀ m < 8, v.getLsbD (7 - m) = (decide (n = 0 ∧ m < bits) && own.getLsbD (7 - m))) ∧
      ∀ m < part.length,
        part[m]? = some (some (decide (out.length = 0 ∧ m < bits) && own.getLsbD (7 - m)))

/-! ### Sample Periods, links and the clock -/

/-- A SAMPLE_PERIOD that ends no Block Period drives the link frame sync; the Proceedings Clock adds one exactly
when a Session is open and was not opened in the period that ends, and the ring and the period count stay (R16, R79).
What the end of that period brings: a link that was not heard has a missing frame; a Bench Line whose change has
stood for 960 periods takes its new level; the house counts take the edge of the period, with the loss, or in CLOSED
the return, that they bring (R1, R3, R17, R18, R19, R21, R95). Each Bench Line is then sampled at its level in the
new period, whose house edge waits for its end (R17, R95). With no period in progress only the new one starts. A
SAMPLE_PERIOD that comes when a Block Period is over does the boundary's work first, as BLOCK_BOUNDARY would. That
one row ends a period and starts the next, that a link not heard is missing only then, who brings the boundary
about, and what a first-edge time holds without a change, are the model's choice (log entries 6, 7, 9 and 33). -/
def Obligations.SamplePeriods : Prop :=
  let level := fun (x : BenchLevels) (l : Line) => match l with
    | .onRec => x.onRec
    | .offRec => x.offRec
    | .privacy => x.privacy
    | .mark => x.mark
    | .key => x.key
  let settled := fun (s : State) (l : Line) =>
    let x := s.proc.lines.get l
    if x.count = 960 then { x with level := !x.level, count := 0 } else x
  let sampled := fun (line : Line → BenchLine) (x : BenchLevels) (t : State) => ∀ l : Line,
    t.proc.lines.get l = (line l).sample (level x l) t.proc.clock (decide (t.proc.state = .closed))
  let present := fun (u : ClockUnit) => match u.edge with
    | none => u.housePresent
    | some false => 0
    | some true => if u.housePresent < 48000 then u.housePresent + 1 else u.housePresent
  let edgeless := fun (u : ClockUnit) => match u.edge with
    | none => u.edgeless
    | some true => 0
    | some false => if u.edgeless < 3 then u.edgeless + 1 else u.edgeless
  let ended := fun (s t : State) =>
    (∀ i : Fin 8, t.links[i] =
      { (if s.links[i].heard then s.links[i] else s.received i .absent) with heard := false }) ∧
    t.clockUnit.housePresent = present s.clockUnit ∧ t.clockUnit.edgeless = edgeless s.clockUnit ∧
    ∀ e, s.clockUnit.edge = some e →
      let lost := s.clockUnit.state = .house ∧ edgeless s.clockUnit = 3
      let back := s.proc.state = .closed ∧ s.clockUnit.state = .fallback ∧ present s.clockUnit = 48000
      (lost → t.clockUnit.state = .fallback) ∧ (back → t.clockUnit.state = .house) ∧
      (¬lost → ¬back → t.clockUnit.state = s.clockUnit.state)
  (∀ (edge : Bool) (levels : BenchLevels) (s : State), s.power = .running → s.resetLine = false →
    s.stage = .idle → s.inPeriod = true → s.boundaryDue = false →
    ∃ t, exec (.samplePeriod edge levels) s = .next t ∧ t.inPeriod = true ∧
      t.frameSyncs = s.frameSyncs + 1 ∧ t.proc.opening = false ∧
      t.proc.clock = (if s.proc.state ≠ .closed ∧ s.proc.opening = false then s.proc.clock + 1
        else s.proc.clock) ∧
      t.proc.periods = s.proc.periods ∧ t.ring = s.ring ∧ t.stage = .idle ∧
      ended s t ∧ t.clockUnit.edge = some edge ∧ sampled (settled s) levels t ∧
      (∀ i : Fin 8, (s.links[i]).heard = false → (s.links[i]).state = .slipping →
        (s.received i .absent).state = .down → ∀ q : Port,
          (t.events.get q).flags &&& eventMask .link ≠ 0) ∧
      ∀ e, s.clockUnit.edge = some e →
        let lost := s.clockUnit.state = .house ∧ edgeless s.clockUnit = 3
        (lost → ∀ q : Port, (t.events.get q).flags &&& eventMask .clock ≠ 0) ∧
        (s.proc.state = .closed → s.clockUnit.state = .fallback → present s.clockUnit = 48000 →
          ∀ q : Port, (t.events.get q).flags &&& eventMask .clock ≠ 0) ∧
        ((∀ i : Fin 8, (s.links[i]).heard = true) → (∀ l : Line, (s.proc.lines.get l).count ≠ 960) →
          (lost → t.marks = (s.requestMark (deviceMark .clock s.proc.clock 0)).marks) ∧
          (¬lost → t.marks = s.marks))) ∧
  (∀ (edge : Bool) (levels : BenchLevels) (s : State), s.power = .running → s.resetLine = false →
    s.stage = .idle → s.inPeriod = false →
    ∃ t, exec (.samplePeriod edge levels) s = .next t ∧
      t = { s with
        inPeriod := true
        frameSyncs := s.frameSyncs + 1
        proc := t.proc
        clockUnit := { s.clockUnit with edge := some edge }
        inProgress := t.inProgress
        tracks := t.tracks } ∧
      t.proc = { s.proc with opening := false, lines := t.proc.lines } ∧
      sampled s.proc.lines.get levels t ∧
      (s.proc.state = .closed ∨ s.proc.clock % 480 ≠ 0 →
        t.inProgress = s.inProgress ∧ t.tracks = s.tracks)) ∧
  ∀ (edge : Bool) (levels : BenchLevels) (s u : State), s.boundaryDue = true →
    exec (.blockBoundary 0) s = .next u →
    ended s u ∧ u.clockUnit.edge = none ∧ (∀ l : Line, u.proc.lines.get l = settled s l) ∧
    exec (.samplePeriod edge levels) s = exec (.samplePeriod edge levels) u ∧
      ∃ t, exec (.samplePeriod edge levels) s = .next t ∧ t.stage = .idle ∧ t.inPeriod = true ∧
        t.frameSyncs = s.frameSyncs + 1 ∧ t.proc.periods = s.proc.periods + 1 ∧
        t.proc.clock = s.proc.clock + 1 ∧ t.clockUnit.edge = some edge ∧ sampled (settled s) levels t

/-- The sync pattern is found exactly where the first eight bits are E2H. The check matches exactly where all 116
bits are there and bits 108 to 115 are the remainder that the polynomial of bits 8 to 107, the first its highest
coefficient, leaves when it is multiplied by x^8 and divided by x^8 + x^2 + x + 1; so a frame of fewer bits fails it
(R1, R2, R197). A frame built as Table 12.1 gives it, with the check of R2, is one whose sync is found and whose
check matches, and its count and samples are read back. -/
def Obligations.LinkFramesReadBack : Prop :=
  let poly : List Bool → Polynomial (ZMod 2) := fun bits =>
    bits.foldl (fun m b => m * Polynomial.X + if b then 1 else 0) 0
  let crc : Polynomial (ZMod 2) := Polynomial.X ^ 8 + Polynomial.X ^ 2 + Polynomial.X + 1
  (∀ bits : List Bool, syncFound bits = true ↔
    bits.take 8 = [true, true, true, false, false, false, true, false]) ∧
  (∀ bits : List Bool, checkMatches bits = true ↔ 116 ≤ bits.length ∧
    poly ((bits.drop 108).take 8) =
      Polynomial.modByMonic (poly ((bits.drop 8).take 100) * Polynomial.X ^ 8) crc) ∧
  ∀ (count : BitVec 4) (samples : Vector Int 4),
    (∀ i : Fin 4, -8388608 ≤ samples[i] ∧ samples[i] ≤ 8388607) →
    let bits := linkFrameOf count samples
    bits.length = 116 ∧ syncFound bits = true ∧ checkMatches bits = true ∧ frameCount bits = count ∧
      ∀ i : Fin 4, frameSample bits i = samples[i]

/-- A frame is good when its sync pattern and its check match and its count is the expected one, a test skipped in
SEEKING while the consecutive-good count is 0; the expected count is then one more than the frame's, and after a
bad frame one more than it was (R3). A link's frame period: DOWN and enabled it enters SEEKING on the sync pattern
and judges that frame at once as the first of SEEKING; SEEKING locks at the 16th consecutive good frame, with its
without-good and stay counts cleared, and falls back to DOWN at a stay of 480 with its counts cleared; LOCKED slips
on a bad frame; SLIPPING locks again at four good frames in a row, its counts cleared, and goes DOWN at 48 without a
good one or a stay of 4800, its counts cleared; a bad frame of a link that is judged counts one, up to 65,535 (R4,
R5, R6, R7, R8). -/
def Obligations.LinkStates : Prop :=
  (∀ (l : Link) (x : LinkInput), l.judge x = true ↔ ∃ bits, x = .started bits ∧ syncFound bits = true ∧
    checkMatches bits = true ∧ (frameCount bits = l.expected ∨ (l.state = .seeking ∧ l.goodRun = 0))) ∧
  ∀ (l : Link) (x : LinkInput) (enabled : Bool),
    let t := l.framePeriod enabled x
    let good := l.judge x
    let sync := ∃ bits, x = .started bits ∧ syncFound bits = true
    (l.state = .down → (enabled = false ∨ ¬sync) → t = l) ∧
    (∀ bits, l.state = .down → enabled = true → x = .started bits → syncFound bits = true →
      t = { l with
        state := .seeking
        seekStay := 1
        goodRun := if checkMatches bits then 1 else 0
        expected := if checkMatches bits then frameCount bits + 1 else l.expected + 1
        badFrames := if checkMatches bits then l.badFrames
          else if l.badFrames < 65535 then l.badFrames + 1 else l.badFrames }) ∧
    (l.state ≠ .down →
      (good = false → t.expected = l.expected + 1) ∧
      ∀ bits, good = true → x = .started bits → t.expected = frameCount bits + 1) ∧
    (l.state = .seeking → good = true → 15 ≤ l.goodRun → t.state = .locked ∧ t.withoutGood = 0 ∧
      t.seekStay = 0) ∧
    (l.state = .seeking → (good = false ∨ l.goodRun < 15) → 479 ≤ l.seekStay → t.state = .down ∧
      t.goodRun = 0 ∧ t.seekStay = 0) ∧
    (l.state = .seeking → (good = false ∨ l.goodRun < 15) → l.seekStay < 479 → t.state = .seeking ∧
      t.seekStay = l.seekStay + 1 ∧ t.goodRun = if good then l.goodRun + 1 else 0) ∧
    (l.state = .locked → good = true → t.state = .locked ∧ t.withoutGood = 0) ∧
    (l.state = .locked → good = false → t.state = .slipping ∧ t.withoutGood = 1 ∧ t.slipStay = 1 ∧
      t.goodRun = 0) ∧
    (l.state = .slipping → good = true → 3 ≤ l.goodRun → t.state = .locked ∧ t.withoutGood = 0 ∧
      t.goodRun = 0 ∧ t.slipStay = 0) ∧
    (l.state = .slipping → good = true → l.goodRun < 3 → 4799 ≤ l.slipStay → t.state = .down) ∧
    (l.state = .slipping → good = true → l.goodRun < 3 → l.slipStay < 4799 → t.state = .slipping ∧
      t.goodRun = l.goodRun + 1 ∧ t.withoutGood = 0 ∧ t.slipStay = l.slipStay + 1) ∧
    (l.state = .slipping → good = false → (47 ≤ l.withoutGood ∨ 4799 ≤ l.slipStay) →
      t.state = .down) ∧
    (l.state = .slipping → good = false → l.withoutGood < 47 → l.slipStay < 4799 →
      t.state = .slipping ∧ t.withoutGood = l.withoutGood + 1 ∧ t.goodRun = 0 ∧
      t.slipStay = l.slipStay + 1) ∧
    (l.state = .slipping → t.state = .down → t.goodRun = 0 ∧ t.withoutGood = 0 ∧ t.seekStay = 0 ∧
      t.slipStay = 0) ∧
    (l.state ≠ .down → l.badFrames ≤ 65535 →
      t.badFrames = if good then l.badFrames else min 65535 (l.badFrames + 1)) ∧
    t.hold = l.hold ∧ t.out = l.out ∧ t.heard = l.heard

/-- LINK_FRAME judges the frame and delivers four samples, whatever became of the link; the lock from SEEKING and the
fall from SLIPPING set LINK on both ports and ask for a LINK Mark, the other passages nothing; the other links, the
clock, the ring and the settings stay (R3, R6, R8, R9). That the rows LINK_LOCK, LINK_SEEK_TIMEOUT, LINK_RELOCK and
LINK_DOWN carry the frame, and act as LINK_FRAME does where it makes their passage, is the model's choice (log
entry 8). -/
def Obligations.LinkRows : Prop :=
  ∀ (n : Fin 8) (x : LinkInput) (s : State), s.power = .running → s.resetLine = false →
    s.inPeriod = true → (s.links[n]).heard = false →
    let after := s.received n x
    let quiet := { s with links := s.links.set n after }
    let told := State.requestMark (State.raiseBoth quiet .link)
      (deviceMark .link s.proc.clock (BitVec.ofNat 8 n.val ++ linkStateCode after.state))
    (s.links[n].state = .seeking → after.state = .locked →
      exec (.linkLock n x) s = .next told ∧ exec (.linkFrame n x) s = .next told) ∧
    (s.links[n].state = .seeking → after.state = .down →
      exec (.linkSeekTimeout n x) s = .next quiet ∧ exec (.linkFrame n x) s = .next quiet) ∧
    (s.links[n].state = .slipping → after.state = .locked →
      exec (.linkRelock n x) s = .next quiet ∧ exec (.linkFrame n x) s = .next quiet) ∧
    (s.links[n].state = .slipping → after.state = .down →
      exec (.linkDown n x) s = .next told ∧ exec (.linkFrame n x) s = .next told) ∧
    (¬(s.links[n].state = .seeking ∧ after.state = .locked) →
      ¬(s.links[n].state = .slipping ∧ after.state = .down) → exec (.linkFrame n x) s = .next quiet)

/-- What a link delivers: the frame's samples LIVE, which become the hold values, when it is LOCKED or SLIPPING
after a good frame; the hold values CONCEALED at a without-good count of 1 or 2, and else the fill value FILLED;
in a Verify Session the pattern whatever the frame (R11, R12, R13). -/
def Obligations.Delivery : Prop :=
  ∀ (l : Link) (n : Fin 8) (enabled : Bool) (fill : Int) (x : LinkInput) (i : Fin 4),
    let after := l.framePeriod enabled x
    let t := l.receive n enabled fill none x
    let good := l.judge x
    (∀ k : Nat, (l.receive n enabled fill (some k) x).out[i] =
      ⟨((((k + 64 * (4 * n.val + i.val)) % 4096 : Nat) : Int) - 2048) * 4096, .pattern⟩) ∧
    (l.state ≠ .down → (after.state = .locked ∨ after.state = .slipping) → good = true → ∀ bits,
      framed x = some bits → t.out[i] = ⟨frameSample bits i, .live⟩ ∧ t.hold[i] = frameSample bits i) ∧
    (l.state ≠ .down → (after.state = .locked ∨ after.state = .slipping) → good = false →
      after.withoutGood ≤ 2 → t.out[i] = ⟨l.hold[i], .concealed⟩ ∧ t.hold[i] = l.hold[i]) ∧
    (l.state ≠ .down → (after.state = .locked ∨ after.state = .slipping) → good = false →
      2 < after.withoutGood → t.out[i] = ⟨fill, .filled⟩ ∧ t.hold[i] = l.hold[i]) ∧
    ((after.state = .seeking ∨ after.state = .down) →
      t.out[i] = ⟨fill, .filled⟩ ∧ t.hold[i] = l.hold[i])

/-- HOUSE_CLOCK_LOSS, in HOUSE when the period in progress is the third edgeless one: FALLBACK, CLOCK on both ports
and, in an open Session, a CLOCK Mark for INTERNAL at the present clock value (R17, R18, R21). HOUSE_CLOCK_RETURN, in
FALLBACK: in CLOSED with the period that brings the count to 48,000, with CLOCK and no Mark; at a Block Boundary at
which it stands at 48,000, with CLOCK and a CLOCK Mark for HOUSE, and no Mark at a closing one once the Session is
closed (R17, R19, R21, R153). That the rows of a period count that period, as its end would, that HOUSE_CLOCK_LOSS
does nothing in another period, and what a FLOOR Mark that still waits does are the model's choice (log entries 4, 6
and 10). -/
def Obligations.HouseLossAndReturn : Prop :=
  (∀ (n : Nat) (s : State), s.power = .running → s.resetLine = false → s.inPeriod = true →
    s.clockUnit = ⟨.house, n, 2, some false⟩ → exec .houseClockLoss s =
      .next (State.requestMark (State.raiseBoth { s with clockUnit := ⟨.fallback, 0, 3, none⟩ } .clock)
        (deviceMark .clock s.proc.clock 0))) ∧
  (∀ s : State, (s.clockUnit.state ≠ .house ∨ s.clockUnit.edge = some true ∨ s.clockUnit.edgeless < 2) →
    exec .houseClockLoss s = .next s) ∧
  (∀ (n k : Nat) (s : State), s.power = .running → s.resetLine = false → s.inPeriod = true →
    s.proc.state = .closed → (n = 47999 ∨ n = 48000) → s.clockUnit = ⟨.fallback, n, k, some true⟩ →
    exec .houseClockReturn s =
      .next (State.raiseBoth { s with clockUnit := ⟨.house, 48000, 0, none⟩ } .clock)) ∧
  ∀ (next : ProceedingsState) (wait : Option (Nat × Option (Fin 32) × Bool)) (s : State),
    s.power = .running → s.resetLine = false → s.stage = .turned next wait → s.inPeriod = false →
    s.clockUnit.state = .fallback → s.clockUnit.housePresent = 48000 →
    let back := State.raiseBoth { s with clockUnit := { s.clockUnit with state := .house } } .clock
    (s.proc.state ≠ .closed → s.closesHere = false → exec .houseClockReturn s =
      .next (back.insertMark (deviceMark .clock s.proc.clock 1)).floorNext) ∧
    (s.proc.state = .closed → wait = none → exec .houseClockReturn s = .next back)

/-! ### Bench Lines -/

/-- A Bench Line in a Sample Period: a level equal to the debounced one ends a change, a first difference starts
one with its time, and a later one counts on (R95). BENCH_LINE_ACCEPT at a count of 960 turns the debounced level
and clears the count. A rise of ON_REC or OFF_REC acts as Table 5.3 with origin BENCH and is ignored in CLOSED and
with CLOSE pending; a rise of PRIVACY in ON_RECORD enters SIDEBAR at once and keeps a pending CLOSE; a fall of
PRIVACY in SIDEBAR with no target makes ON_RECORD pending; a rise of MARK in an open Session asks for a BENCH Mark
at its first edge, or at 0 and CLAMPED when that fell before the Session; KEY and the other falls only turn the
level (R95, R96, R97, R98). That a change accepted or discarded leaves its first-edge time is the model's choice (log
entry 33). -/
def Obligations.BenchLines : Prop :=
  (∀ (x : BenchLine) (present closed : Bool) (clock : Nat), x.count < 960 →
    (present = x.level → x.sample present clock closed = { x with count := 0 }) ∧
    (present ≠ x.level → x.count = 0 → x.sample present clock closed =
      { x with count := 1, firstEdge := clock, early := closed }) ∧
    (present ≠ x.level → 0 < x.count → x.sample present clock closed = { x with count := x.count + 1 })) ∧
  ∀ (l : Line) (s : State), s.power = .running → s.resetLine = false → s.inPeriod = true →
    (s.proc.lines.get l).count = 960 →
    let x := s.proc.lines.get l
    let u := { s with proc := { s.proc with
      lines := s.proc.lines.set l { x with level := !x.level, count := 0 } } }
    let rises := x.level = false
    let wanted := if l = .onRec then ProceedingsState.onRecord else .offRecord
    (l = .key → exec (.benchLineAccept l) s = .next u) ∧
    (¬rises → l ≠ .privacy → exec (.benchLineAccept l) s = .next u) ∧
    (rises → (l = .onRec ∨ l = .offRec) →
      (s.proc.state = .closed ∨ s.proc.target.map Prod.fst = some .close) →
      exec (.benchLineAccept l) s = .next u) ∧
    (∀ row, rises → (l = .onRec ∨ l = .offRec) →
      requestTable s.proc.state (s.proc.target.map Prod.fst) s.proc.lines.privacy.level wanted =
        some row →
      exec (.benchLineAccept l) s = .next { u with
        proc := { u.proc with target := targetAfter s.proc.target row .bench } }) ∧
    (rises → l = .privacy → s.proc.state = .onRecord → exec (.benchLineAccept l) s =
      .next (State.raiseBoth (State.insertMark { u with proc := { u.proc with
        state := .sidebar
        target := if s.proc.target.map Prod.fst = some .close then s.proc.target else none
        restricted := true } }
        ⟨.state, .bench, s.proc.clock, 3, none, false, false⟩) .state)) ∧
    (rises → l = .privacy → s.proc.state ≠ .onRecord → exec (.benchLineAccept l) s = .next u) ∧
    (¬rises → l = .privacy → s.proc.state = .sidebar → s.proc.target = none →
      exec (.benchLineAccept l) s = .next { u with
        proc := { u.proc with target := some (.onRecord, .bench) } }) ∧
    (¬rises → l = .privacy → (s.proc.state ≠ .sidebar ∨ s.proc.target ≠ none) →
      exec (.benchLineAccept l) s = .next u) ∧
    (rises → l = .mark → s.proc.state = .closed → exec (.benchLineAccept l) s = .next u) ∧
    (rises → l = .mark → s.proc.state ≠ .closed → exec (.benchLineAccept l) s =
      .next (State.insertMark u ⟨.bench, .bench, if x.early then 0 else x.firstEdge, 0, none, false,
        x.early⟩))

/-! ### The Block Boundary -/

/-- BLOCK_BOUNDARY at the end of the 480th Sample Period; `u` is the state when that period has ended and pending
settings are applied. Clock and Block Period count add one. Each Track of the finished Block updates its Activity
State by its Peak, and the Floor is decided on the Peaks (R64); FLOOR is set on both ports exactly when the holder
changes (R73). The finished Block is classed by Table 5.4, with the entry of each of its Tracks as Table 12.4 gives
it and the decided holder (R93, R102); it is the last-block record (R51, R56), sets the restricted-clip indication
when it is RESTRICTED (R57), and goes to the ring as R111 to R114 say: into an unfilled ring with no Gap as Sequence
N, and nowhere when it is not recorded. The state after the boundary is fixed (R90, R93). A changed holder brings a
FLOOR Mark unless the record is off or closed after the boundary, which asks for the RESTRICTED flag when the Block
or the state after the boundary is restricted (R73, R74); that it comes after `k` other Marks of the boundary is the
model's choice (log entry 10). -/
def Obligations.BlockBoundary : Prop :=
  ∀ (k : Nat) (s : State), s.boundaryDue = true → ∀ b, s.beginBoundary.inProgress = some b →
    let u := s.beginBoundary
    let cls := if s.proc.verify then BlockClass.test else if u.proc.restricted then .restricted else .opened
    let peaks := b.tracks.map fun w => peak16 b.plan.width w.peak
    let f := (u.updateActivity peaks).floorDecision peaks
    let changed := f.holder ≠ u.floor.holder
    ∃ t next, exec (.blockBoundary k) s = .next t ∧ t.proc.clock = s.proc.clock + 1 ∧
      t.proc.periods = s.proc.periods + 1 ∧ t.inPeriod = false ∧ t.inProgress = none ∧
      t.turned = true ∧ t.proc.session = s.proc.session ∧ t.links = u.links ∧
      t.settings = u.settings ∧ t.changes = u.changes ∧
      u.fixNext.stage = .turned next none ∧ t.proc = u.fixNext.proc ∧
      (∀ i : Fin 32, t.activity[i] = match peaks[i.val]? with
        | none => u.activity[i]
        | some p => (u.activity[i]).update u.settings.general.track[i] p) ∧
      t.floor = f ∧
      (∀ q : Port, changed → (t.events.get q).flags &&& eventMask .floor ≠ 0) ∧
      (∀ q : Port, ¬changed → (t.events.get q).flags &&& eventMask .floor =
        (u.events.get q).flags &&& eventMask .floor) ∧
      (∃ entries : List TrackEntry, t.tracks.last = some ⟨s.proc.periods, cls, f.holder, entries⟩ ∧
        entries.length = b.tracks.length ∧
        (∀ (i : Nat) (w : TrackWork), b.tracks[i]? = some w → entries[i]? =
          some (⟨w.worst.getD .live, (trackAt t.activity i startActivity).state, w.clips,
            peak16 b.plan.width w.peak⟩ : TrackEntry)) ∧
        t.tracks.restrictedClip = (u.tracks.restrictedClip || decide (cls = .restricted)) ∧
        let x : Block := ⟨.audio, cls, b.plan.width, b.plan.trackCount, s.ring.next, b.session, b.generation,
          b.time, 1, b.plan.bodyLength, f.holder, b.time + 479, entries, b.tracks.map TrackWork.samples⟩
        (∃ v : State, v.ring = s.ring ∧ v.readers = u.readers ∧ v.proc = u.proc ∧
          t.ring = (v.ringAtBoundary s.proc.recording x).ring) ∧
        (s.proc.recording = false → s.ring.gap = none → t.ring = s.ring) ∧
        (s.proc.recording = true → s.ring.gap = none → s.ring.blocks.length < 8192 →
          t.ring.blocks = s.ring.blocks ++ [x] ∧ t.ring.next = s.ring.next + 1)) ∧
      let marked := changed ∧ (next = .onRecord ∨ next = .sidebar)
      let restricted := decide (cls = .restricted) || decide (next = .sidebar)
      let arg : BitVec 16 := match f.holder with
        | none => 0xFFFF
        | some h => BitVec.ofNat 16 h.val
      (¬marked → t.stage = .turned next none ∧ t.marks = u.marks) ∧
      (marked → 0 < k → t.stage = .turned next (some (k, f.holder, restricted)) ∧ t.marks = u.marks) ∧
      (marked → k = 0 → t.stage = .turned next none ∧ ∃ v : State, v.marks = u.marks ∧ v.ring = t.ring ∧
        v.proc = t.proc ∧ v.stage = t.stage ∧
        t = v.insertMark ⟨.floor, .device, t.proc.clock, arg, none, restricted, false⟩)

/-- The Slots that can be had, by the free Slots and what retention keeps of the two oldest Blocks (R105, R106), and
storing at a Block Boundary with a recording Block, by the Pending Gap and those Slots. Each storing, `put`, writes
the Block as Sequence N after the freeing of the Oldest Block where the ring is full, and has the Readers' flags
evaluated (R103, R111, R112, R113, R115, Table 6.3). With a Block that is not a recording one a waiting Pending Gap
is stored once a Slot can be had, and nothing else happens (R114). That the evaluation follows the storing, and
not a freeing before it, is the model's choice (log entry 15). -/
def Obligations.StoringTable : Prop :=
  ∀ (s : State) (b : Block), s.ring.blocks.length ≤ 8192 →
    let t := s.ringAtBoundary true b
    let slots := s.obtainableSlots
    let n := s.ring.next
    let stored := { b with sequence := n }
    let quiet := s.ringAtBoundary false b
    let gapBlock := fun (g : PendingGap) => (⟨.gap,
      if s.proc.verify then .test else if g.restricted then .restricted else .opened, g.firstWidth, 0, n,
      s.proc.session, g.firstGeneration, g.firstTime, g.count, 0, none, g.spanEnd, [], []⟩ : Block)
    let put := fun (s : State) (b : Block) =>
      let u := if 8192 ≤ s.ring.blocks.length then s.freeOldest else s
      State.evaluateBoth { u with ring := { u.ring with
        blocks := u.ring.blocks ++ [{ b with sequence := u.ring.next }], next := u.ring.next + 1 } }
    let putGap := fun (g : PendingGap) =>
      let u := put s (gapBlock g)
      State.raiseBoth { u with ring := { u.ring with gap := none } } .gap
    let count := s.ring.blocks.length
    let oldest := n - count
    (count ≤ 8190 → slots = 2) ∧
    (count = 8191 → (s.slotKept oldest → slots = 1) ∧ (¬s.slotKept oldest → slots = 2)) ∧
    (count = 8192 → (s.slotKept oldest → slots = 0) ∧
      (¬s.slotKept oldest → s.slotKept (oldest + 1) → slots = 1) ∧
      (¬s.slotKept oldest → ¬s.slotKept (oldest + 1) → slots = 2)) ∧
    (s.ring.gap = none → quiet = s) ∧
    (∀ g, s.ring.gap = some g → (1 ≤ slots → quiet = putGap g) ∧ (slots = 0 → quiet = s)) ∧
    (s.ring.gap = none → 1 ≤ slots → t = put s b) ∧
    (∀ g, s.ring.gap = some g → slots = 2 → t = put (putGap g) b) ∧
    (∀ g, s.ring.gap = some g → slots = 1 → t = putGap { g with
      count := g.count + 1
      restricted := g.restricted || decide (b.cls = .restricted)
      spanEnd := b.time + 479 }) ∧
    (s.ring.gap = none → 1 ≤ slots → t.ring.next = n + 1 ∧ t.ring.gap = none ∧
      t.ring.blocks.getLast? = some stored) ∧
    (s.ring.gap = none → slots = 0 → t = { s with
      ring := { s.ring with
        gap := some ⟨1, decide (b.cls = .restricted), b.time, b.generation, b.width, b.time + 479⟩ } }) ∧
    ∀ g, s.ring.gap = some g →
      let joined := { g with
        count := g.count + 1
        restricted := g.restricted || decide (b.cls = .restricted)
        spanEnd := b.time + 479 }
      (slots = 2 → t.ring.next = n + 2 ∧ t.ring.gap = none ∧
        t.ring.blocks.getLast? = some { b with sequence := n + 1 } ∧
        t.ring.blocks.dropLast.getLast? = some (gapBlock g)) ∧
      (slots = 1 → t.ring.next = n + 1 ∧ t.ring.gap = none ∧
        t.ring.blocks.getLast? = some (gapBlock joined) ∧
        ∀ q : Port, (t.events.get q).flags &&& eventMask .gap ≠ 0) ∧
      (slots = 0 → t = { s with ring := { s.ring with gap := some joined } })

/-- The freeing of the Oldest Block: it leaves the ring; an attached YIELDING Reader whose Release Cursor it
reaches is moved past it, and, if it had not read it, counts it skipped and is in CUT, with CUT on its port when it
was FOLLOWING; any other Reader keeps its cursors; a transfer of that Block is overtaken; a YIELDING Hold that
starts at it is shortened by one, or gone when it was its last, with HOLD_TRIMMED on its owner's port, and every
other Hold stays; a port's last-placed entry is NONE once its Hold is gone (R103, R107, R108, R109, R117). -/
def Obligations.FreeingReaches : Prop :=
  ∀ s : State,
    let q := s.ring.next - s.ring.blocks.length
    let t := s.freeOldest
    t.ring.blocks = s.ring.blocks.tail ∧ t.ring.next = s.ring.next ∧ t.ring.gap = s.ring.gap ∧
    t = { s with ring := t.ring, readers := t.readers, events := t.events } ∧
    (∀ p : Port,
      let x := s.readers.get p
      let y := t.readers.get p
      let reached := x.state ≠ .detached ∧ x.retention = some .yielding ∧ x.release ≤ q
      (¬reached → y = { x with flight := y.flight }) ∧
      (reached → q < x.read → y = { x with flight := y.flight, release := q + 1 }) ∧
      (reached → x.read ≤ q → y = { x with
        flight := y.flight
        release := q + 1
        read := q + 1
        skipped := if x.skipped < 4294967295 then x.skipped + 1 else x.skipped
        state := .cut }) ∧
      (reached → x.read ≤ q → x.state = .following →
        (t.events.get p).flags &&& eventMask .cut ≠ 0) ∧
      (¬(reached ∧ x.read ≤ q ∧ x.state = .following) →
        (t.events.get p).flags &&& eventMask .cut = (s.events.get p).flags &&& eventMask .cut) ∧
      let trimmed := ∃ (e : Fin 8) (h : Hold), s.ring.holds[e] = some h ∧ h.cls = .yielding ∧ h.first = q ∧
        h.owner = p
      (trimmed → (t.events.get p).flags &&& eventMask .holdTrimmed ≠ 0) ∧
      (¬trimmed → (t.events.get p).flags &&& eventMask .holdTrimmed =
        (s.events.get p).flags &&& eventMask .holdTrimmed) ∧
      (t.events.get p).mask = (s.events.get p).mask ∧
      (s.ring.lastPlaced.get p = none → t.ring.lastPlaced.get p = none) ∧
      (∀ e : Fin 8, s.ring.lastPlaced.get p = some e →
        t.ring.lastPlaced.get p = if t.ring.holds[e] = none then none else some e) ∧
      ∀ f, x.flight = some f → f.overtaken = none →
        y.flight = some (if f.delivery = .block q then { f with overtaken := some f.edges } else f)) ∧
    (∀ e : Fin 8, s.ring.holds[e] = none → t.ring.holds[e] = none) ∧
    ∀ (e : Fin 8) (h : Hold), s.ring.holds[e] = some h →
      (h.cls = .yielding → h.first = q → q < h.last →
        t.ring.holds[e] = some { h with first := q + 1 }) ∧
      (h.cls = .yielding → h.first = q → h.last ≤ q → t.ring.holds[e] = none) ∧
      (¬(h.cls = .yielding ∧ h.first = q) → t.ring.holds[e] = some h)

/-- STORE_GAP_BLOCK: while the Block in Progress is not a recording one, a waiting Pending Gap is stored as a GAP
Block with the fields of Table 6.2 as Sequence N once a Slot can be had, that is, unless the ring is full and
retention keeps its Oldest Block (R105, R106), and GAP is set on both ports; without a Slot, or in a recording Block
Period, nothing happens. MARKS_LOST_STORE: in CLOSED with Marks counted lost, the MARKS_LOST Mark is stored once an
entry can be had, that is, unless the list is full and a BINDING Mark Cursor keeps its oldest Mark (R115, R116, R157,
R161, R162). R116 and R162 give these storings at
the taking of the commands they name, which carry them out: that the two rows by themselves store what is still due,
and have no effect where nothing is, is the model's choice (log entries 4 and 24). -/
def Obligations.CatchingUp : Prop :=
  (∀ (s : State) (g : PendingGap), s.live = true → s.stage = .idle → s.ring.gap = some g →
    s.ring.blocks.length ≤ 8192 →
    let recording := s.proc.state ≠ .closed ∧ s.proc.recording = true
    let noSlot := s.ring.blocks.length = 8192 ∧ s.slotKept (s.ring.next - s.ring.blocks.length)
    (recording ∨ noSlot → exec .storeGapBlock s = .next s) ∧
    (¬recording → ¬noSlot → ∃ t, exec .storeGapBlock s = .next t ∧
      t.ring.gap = none ∧ t.ring.next = s.ring.next + 1 ∧
      t.ring.blocks.getLast? = some ⟨.gap, if s.proc.verify then .test else if g.restricted then .restricted
        else .opened, g.firstWidth, 0, s.ring.next, s.proc.session, g.firstGeneration, g.firstTime,
        g.count, 0, none, g.spanEnd, [], []⟩ ∧
      (∀ q : Port, (t.events.get q).flags &&& eventMask .gap ≠ 0) ∧ t.marks = s.marks ∧
      t.proc = s.proc ∧ t.settings = s.settings)) ∧
  ∀ s : State, s.live = true → s.stage = .idle → s.marks.lost > 0 → s.marks.marks.length ≤ 1024 →
    let noEntry := s.marks.marks.length = 1024 ∧ s.markKept (s.marks.next - s.marks.marks.length)
    (s.proc.state ≠ .closed ∨ noEntry → exec .marksLostStore s = .next s) ∧
    (s.proc.state = .closed → ¬noEntry → ∃ t, exec .marksLostStore s = .next t ∧
      t.marks.lost = 0 ∧ t.marks.firstLost = none ∧ t.marks.next = s.marks.next + 1 ∧
      (∃ m, t.marks.marks.getLast? = some m ∧ m.serial = s.marks.next ∧ m.kind = .marksLost ∧
        m.origin = .device ∧ m.time = s.marks.firstLost.getD 0 ∧
        m.arg = BitVec.ofNat 16 (min s.marks.lost 65535)) ∧
      (∀ q : Port, (t.events.get q).flags &&& eventMask .mark ≠ 0) ∧ t.ring = s.ring ∧
      t.proc = s.proc ∧ t.settings = s.settings)

/-- What the turn of a boundary fixes for the Block Period that begins: the state after it, by the pending target
and PRIVACY, the restricted-in-progress indication, and whether it records (R90, R91, R92, R93).
PENDING_TARGET_TAKE at an open boundary that does not close makes that state the present one: a change brings a
STATE Mark with the recorded origin and STATE on both ports, and no target is left (R90). When a waiting FLOOR Mark
follows that Mark is the model's choice (log entry 10). -/
def Obligations.BoundaryState : Prop :=
  (∀ s : State,
    let t := s.fixNext
    let closes := s.proc.target.map Prod.fst = some .close ∨ s.proc.periods + 1 ≥ 4294967295
    ∃ next, t.stage = .turned next none ∧ t.proc.periods = s.proc.periods + 1 ∧
      (t.proc.restricted = true ↔ next = .sidebar) ∧
      (t.proc.recording = true ↔ next = .onRecord ∨ next = .sidebar) ∧
      t.proc.state = s.proc.state ∧ t.proc.target = s.proc.target ∧
      (closes → next = .closed) ∧
      (¬closes → s.proc.target = none → next = s.proc.state) ∧
      (∀ who, ¬closes → s.proc.target = some (.onRecord, who) →
        next = if s.proc.lines.privacy.level then .sidebar else .onRecord) ∧
      (∀ who, ¬closes → s.proc.target = some (.offRecord, who) → next = .offRecord) ∧
      ∀ who, ¬closes → s.proc.target = some (.sidebar, who) → next = .sidebar) ∧
  ∀ (s : State) (next : ProceedingsState) (wait : Option (Nat × Option (Fin 32) × Bool)) (target : Target)
    (who : Party), s.live = true → s.stage = .turned next wait → s.closesHere = false →
    s.sessionOpen = true → s.proc.target = some (target, who) →
    (next = s.proc.state → exec .pendingTargetTake s =
      .next { s with proc := { s.proc with target := none } }) ∧
    (next ≠ s.proc.state → next ≠ .closed → exec .pendingTargetTake s = .next (State.raiseBoth
      (State.insertMark { s with proc := { s.proc with state := next, target := none } }
        ⟨.state, who, s.proc.clock, (stateCode next).setWidth 16, none, false, false⟩).floorNext .state))

/-- SESSION_CLOSE at an open boundary with CLOSE pending: CLOSED, no target, the indication clear, clock, count,
session number and verify flag kept, the SESSION_CLOSE Mark with COMMAND and the recorded origin, STATE on both
ports. SESSION_LENGTH_LIMIT at the limit without CLOSE pending: the same with LIMIT and origin DEVICE, whatever
target is pending (R91, R92). -/
def Obligations.SessionCloses : Prop :=
  ∀ (s : State) (next : ProceedingsState), s.live = true → s.stage = .turned next none →
    s.sessionOpen = true →
    let closed := fun (who : Party) (reason : BitVec 16) => State.raiseBoth (State.insertMark
      { s with proc := { s.proc with
        state := .closed, target := none, restricted := false, recording := false } }
      ⟨.sessionClose, who, s.proc.clock, reason, none, false, false⟩) .state
    (∀ who, s.proc.target = some (.close, who) → exec .sessionClose s = .next (closed who 0)) ∧
    (∀ who, s.proc.target = some (.close, who) → 4294967295 ≤ s.proc.periods →
      exec .sessionLengthLimit s = .next (closed who 0)) ∧
    (s.proc.target.map Prod.fst ≠ some .close → 4294967295 ≤ s.proc.periods →
      exec .sessionLengthLimit s = .next (closed .device 1))

/-- The other takings of an open boundary, at one that does not close and, once the Session is closed, at a closing
one: PLAN_ACTIVATE makes the Armed Plan Active with a new generation and PLAN on both ports, and resets activity,
Floor and Clip counts (R37, R38); PENDING_GAIN_APPLY gives every Track number its pending Gain Code and leaves none
pending (R54); CLOCK_SOURCE_APPLY puts the unit where the setting says, with CLOCK exactly when the source in use
changes (R20, R21). Each asks for its Mark, PLAN, LEVEL for each Gain Code or CLOCK, while the Session is open, and
for none in CLOSED (R38, R55, R21, R153). While the closing is still to be made none of them is due: the Session
closes first (R37, R54). When a waiting FLOOR Mark follows such a Mark is the model's choice; one that still waits
when the boundary has nothing left is its last Mark (log entries 4, 7 and 10). -/
def Obligations.BoundaryTakings : Prop :=
  ∀ (s : State) (next : ProceedingsState) (wait : Option (Nat × Option (Fin 32) × Bool)), s.live = true →
    s.stage = .turned next wait → (s.proc.state = .closed → wait = none) →
    let marked := fun (u : State) (q : MarkRequest) =>
      if s.proc.state = .closed then u else (u.insertMark q).floorNext
    (s.proc.state ≠ .closed → s.closesHere = true → exec .planActivate s = .next s ∧
      exec .pendingTargetTake s = .next s ∧ exec .clockSourceApply s = .next s ∧
      (s.inPeriod = false → exec .houseClockReturn s = .next s) ∧
      ∀ order, exec (.pendingGainApply order) s = .next s) ∧
    (s.closesHere = false ∨ s.proc.state = .closed →
      (∀ plan, s.plans.armed = some plan → exec .planActivate s =
        .next (marked (State.raiseBoth { s with
          settings := { s.settings with general := { s.settings.general with plan := plan } }
          plans := { s.plans with armed := none, generation := s.plans.generation + 1 }
          activity := Vector.replicate 32 startActivity
          floor := startFloor
          tracks := { s.tracks with clips := Vector.replicate 32 0, restrictedClip := false } } .plan)
          (deviceMark .plan s.proc.clock (s.plans.generation + 1)))) ∧
      (∀ order, (∃ k : Fin 32, s.changes.gain[k] ≠ none) → ∃ t,
        exec (.pendingGainApply order) s = .next t ∧
        (∀ k : Fin 32, t.settings.general.gain[k] = s.changes.gain[k].getD s.settings.general.gain[k] ∧
          t.changes.gain[k] = none) ∧
        t.ring = s.ring ∧ t.proc = s.proc ∧ t.activity = s.activity ∧
        (s.proc.state = .closed → t.marks = s.marks ∧ t.events = s.events) ∧
        ∀ k v, s.changes.gain[k] = some v → (∀ j : Fin 32, j ≠ k → s.changes.gain[j] = none) →
          t = marked { s with
            settings := { s.settings with general := { s.settings.general with
              gain := s.settings.general.gain.set k v } }
            changes := { s.changes with gain := s.changes.gain.set k none } }
            (deviceMark .level s.proc.clock (BitVec.ofNat 6 k.val ++ BitVec.ofNat 10 v))) ∧
      (∀ src, s.changes.source = some src →
        let u := { s with
          changes := { s.changes with source := none }
          settings := { s.settings with general := { s.settings.general with source := src } }
          clockUnit := { s.clockUnit with state := match src, s.clockUnit.state with
            | .internal, _ => .internal
            | .house, .internal => if s.clockUnit.housePresent = 48000 then .house else .fallback
            | .house, .house => .house
            | .house, .fallback => .fallback } }
        (u.sourceInUse = s.sourceInUse → exec .clockSourceApply s = .next u) ∧
        (u.sourceInUse ≠ s.sourceInUse → exec .clockSourceApply s = .next (marked (u.raiseBoth .clock)
          (deviceMark .clock s.proc.clock ((clockSourceCode u.sourceInUse).setWidth 16)))))) ∧
    (s.proc.state ≠ .closed → s.closesHere = false → s.proc.target = none → s.plans.armed = none →
      (∀ k : Fin 32, s.changes.gain[k] = none) → s.changes.source = none →
      ¬(s.clockUnit.state = .fallback ∧ s.clockUnit.housePresent = 48000) → s.inPeriod = false →
      let last := match wait with
        | none => s
        | some (_, holder, restricted) =>
          State.insertMark { s with stage := .turned next none } (s.floorRequest holder restricted)
      ∀ (edge : Bool) (levels : BenchLevels),
        exec (.samplePeriod edge levels) s = exec (.samplePeriod edge levels) { last with stage := .idle })

/-- PENDING_SETTING_APPLY, when the 480th Sample Period ends with a setting pending: the period ends, every
pending activity and floor setting is the one in effect, none is left, and the decision is still to be made
(R62, R64). That the row itself ends the 480th Sample Period, the clock adding one, and leaves a boundary that has
begun and whose decision is still to come, is the model's choice (log entries 6 and 7). -/
def Obligations.PendingSettingsApply : Prop :=
  ∀ s : State, s.boundaryDue = true → s.settingWaiting = true →
    ∃ t, exec .pendingSettingApply s = .next t ∧ t.stage = .begun ∧
      t.settings.general.margin = s.changes.margin.getD s.settings.general.margin ∧
      t.settings.general.challenge = s.changes.challenge.getD s.settings.general.challenge ∧
      (∀ k : Fin 32, t.settings.general.track[k] =
        ⟨(s.changes.track[k]).threshold.getD (s.settings.general.track[k]).threshold,
          (s.changes.track[k]).attack.getD (s.settings.general.track[k]).attack,
          (s.changes.track[k]).hangover.getD (s.settings.general.track[k]).hangover,
          (s.changes.track[k]).eligible.getD (s.settings.general.track[k]).eligible⟩ ∧
        (∀ h, (s.changes.track[k]).hangover = some h → (t.activity[k]).hang = min (s.activity[k]).hang h)) ∧
      t.settingWaiting = false ∧ t.proc.clock = s.proc.clock + 1 ∧ t.ring = s.ring

/-! ### Activity, the Floor and samples -/

/-- A Track's Activity State after a Block, by Table 4.3 (R65, R66, R67, R68). -/
def Obligations.ActivityTable : Prop :=
  ∀ (x : TrackActivity) (c : TrackSettings) (peak : Nat),
    let loud := c.threshold ≤ peak
    let t := x.update c peak
    (x.state = .quiet → ¬loud → t = x) ∧
    (x.state = .quiet → loud → c.attack = 1 → t = ⟨.active, 0, c.hangover⟩) ∧
    (x.state = .quiet → loud → c.attack ≠ 1 → t = ⟨.rising, 1, 0⟩) ∧
    (x.state = .rising → loud → c.attack ≤ x.attack + 1 → t = ⟨.active, 0, c.hangover⟩) ∧
    (x.state = .rising → loud → x.attack + 1 < c.attack → t = ⟨.rising, x.attack + 1, 0⟩) ∧
    (x.state = .rising → ¬loud → t = ⟨.quiet, 0, 0⟩) ∧
    ((x.state = .active ∨ x.state = .hanging) → loud → t = ⟨.active, 0, c.hangover⟩) ∧
    ((x.state = .active ∨ x.state = .hanging) → ¬loud → x.hang = 0 → t = ⟨.quiet, 0, 0⟩) ∧
    ((x.state = .active ∨ x.state = .hanging) → ¬loud → 0 < x.hang →
      t = ⟨.hanging, 0, x.hang - 1⟩)

/-- The Floor Arbiter's decision: a holder that is QUIET or ineligible loses the Floor; an empty Floor goes to the
candidate of highest Peak, the lowest Track number among equals; a holder is challenged by that candidate when it
leads by the margin, and loses the Floor to it at the challenge count (R70, R71, R72). -/
def Obligations.FloorDecision : Prop :=
  ∀ (s : State) (peaks : List Nat),
    let candidate := fun (holder : Option (Fin 32)) (t : Fin 32) => t.val < peaks.length ∧
      (s.activity[t]).state = .active ∧ (s.settings.general.track[t]).eligible = true ∧ holder ≠ some t
    let leads := fun (holder : Option (Fin 32)) (t : Fin 32) => candidate holder t ∧
      ∀ u, candidate holder u → peaks.getD u.val 0 ≤ peaks.getD t.val 0 ∧
        (peaks.getD u.val 0 = peaks.getD t.val 0 → t ≤ u)
    let lost := fun (h : Fin 32) => (s.activity[h]).state = .quiet ∨
      (s.settings.general.track[h]).eligible = false
    let f := s.floorDecision peaks
    let count := fun (c : Fin 32) => if s.floor.challenger = some c then s.floor.count + 1 else 1
    (∀ t, (s.floor.holder = none ∨ ∃ h, s.floor.holder = some h ∧ lost h) → leads none t →
      f = ⟨some t, none, 0⟩) ∧
    (s.floor.holder = none → (∀ u, ¬candidate none u) → f = s.floor) ∧
    (∀ h, s.floor.holder = some h → lost h → (∀ u, ¬candidate none u) → f = ⟨none, none, 0⟩) ∧
    (∀ h, s.floor.holder = some h → ¬lost h → (∀ u, ¬candidate (some h) u) →
      f = ⟨some h, none, 0⟩) ∧
    ∀ h t, s.floor.holder = some h → ¬lost h → leads (some h) t →
      (peaks.getD t.val 0 < peaks.getD h.val 0 + s.settings.general.margin → f = ⟨some h, none, 0⟩) ∧
      (peaks.getD h.val 0 + s.settings.general.margin ≤ peaks.getD t.val 0 →
        count t < s.settings.general.challenge → f = ⟨some h, some t, count t⟩) ∧
      (peaks.getD h.val 0 + s.settings.general.margin ≤ peaks.getD t.val 0 →
        s.settings.general.challenge ≤ count t → f = ⟨some t, none, 0⟩)

/-- The product P = S × G is divided by D of Table 3.3 and rounded to the nearest integer, a tie going away from zero
(R44); what is stored is that integer brought into the width's range, a Clip exactly when it was outside (R45). -/
def Obligations.SampleArithmetic : Prop :=
  ∀ (w : Width) (m : GroupMode) (gain : Nat) (sum : Int),
    let d := scaleDivisor w m
    let q := scaled w m gain sum
    let unit : Int := match w with
      | .w16 => 65536
      | .w24 => 256
    (m = .direct ∨ m = .sum → d = unit) ∧ (m = .half → d = 2 * unit) ∧ (m = .third → d = 3 * unit) ∧
    0 < d ∧ 2 * |sum * gain - q * d| ≤ d ∧
    (2 * |sum * gain - q * d| = d → |sum * gain| ≤ |q * d|) ∧
    inWidth w (saturate w q) ∧ (inWidth w q → saturate w q = q ∧ isClip w q = false) ∧
    (¬inWidth w q → isClip w q = true) ∧
    (rangeTop w < q → saturate w q = rangeTop w) ∧ (q < rangeBottom w → saturate w q = rangeBottom w)

/-- One Sample Period of the Track Processor. A Track of mode HALF or THIRD keeps the samples of an unfinished
pair or triple in its accumulator; otherwise its output sample is formed of what the accumulator holds and this
period's samples, scaled, saturated and stored; its Clip count adds one for a Clip, its block peak is the
highest magnitude stored, and its worst Source State the worst of every sample that went in (R43, R45, R46, R48,
R49, R50). Over all Tracks of the Block in progress: each takes its Channels' samples with its own Gain Code,
the cumulative Clip counts of those that clip add one up to 65,535, and CLIP is set on both ports at the first
of a Block Period (R43, R46, R47). The first Sample Period of a Block Period sets this up afresh under the plan
then Active (R42, R101). SAMPLE_PERIOD does it as it ends a Sample Period (the model's choice, log entry 6). -/
def Obligations.TrackPeriods : Prop :=
  (∀ (w : TrackWork) (width : Width) (gain j : Nat) (inputs : List ChannelSample),
    let t := w.take width gain j inputs
    let forms := w.spec.mode = .direct ∨ w.spec.mode = .sum ∨ (w.spec.mode = .half ∧ j % 2 = 1) ∨
      (w.spec.mode = .third ∧ j % 3 = 2)
    let sum := w.accSum + (inputs.map ChannelSample.value).sum
    let q := scaled width w.spec.mode gain sum
    let worstIn := fun (seen : List SourceState) (y : SourceState) =>
      (y = .live ∨ y ∈ seen) ∧ ∀ z ∈ seen, sourceRank z ≤ sourceRank y
    let arrived := w.accState.toList ++ inputs.map ChannelSample.source
    (¬forms → ∃ y, worstIn arrived y ∧ t = { w with accSum := sum, accState := some y }) ∧
    (forms → ∃ y, worstIn (w.worst.toList ++ arrived) y ∧ t = { w with
      accSum := 0
      accState := none
      peak := max w.peak (saturate width q).natAbs
      clips := if isClip width q then w.clips + 1 else w.clips
      worst := some y
      samples := w.samples ++ [saturate width q] })) ∧
  (∀ p : Nat, peak16 .w16 p = min 32767 p ∧ peak16 .w24 p = min 32767 (p / 256)) ∧
  (∀ (s : State) (b : BlockInProgress), s.inProgress = some b →
    let t := s.trackPeriod
    let after := fun (k : Nat) (w : TrackWork) => w.take b.plan.width (trackAt s.settings.general.gain k 256)
      (s.proc.clock - b.time) (w.spec.channels.map s.channel)
    let clips := fun (k : Nat) => ∃ w, b.tracks[k]? = some w ∧ (after k w).clips = w.clips + 1
    t = { s with inProgress := t.inProgress, tracks := t.tracks, events := t.events } ∧
    (∃ ws, t.inProgress = some { b with tracks := ws } ∧ ws.length = b.tracks.length ∧
      ∀ k w, b.tracks[k]? = some w → ws[k]? = some (after k w)) ∧
    (∀ k : Fin 32, (clips k.val → t.tracks.clips[k] =
        if s.tracks.clips[k] < 65535 then s.tracks.clips[k] + 1 else s.tracks.clips[k]) ∧
      (¬clips k.val → t.tracks.clips[k] = s.tracks.clips[k])) ∧
    t.tracks.last = s.tracks.last ∧ t.tracks.restrictedClip = s.tracks.restrictedClip ∧
    (t.tracks.clipReported = true ↔ s.tracks.clipReported = true ∨ ∃ k, clips k) ∧
    ((∃ k, clips k) → s.tracks.clipReported = false → ∀ q : Port, t.events.get q =
      { s.events.get q with flags := (s.events.get q).flags ||| eventMask .clip }) ∧
    (((∀ k, ¬clips k) ∨ s.tracks.clipReported = true) → t.events = s.events)) ∧
  (∀ s : State,
    let t := s.setUpIfFirst
    (s.sessionOpen = true → s.proc.clock % 480 = 0 → t = { s with
      inProgress := some ⟨s.proc.session, s.proc.clock, s.plans.generation, s.settings.general.plan,
        s.settings.general.plan.tracks.map fun spec => ⟨spec, 0, none, 0, 0, none, []⟩⟩
      tracks := { s.tracks with clipReported := false } }) ∧
    ((s.sessionOpen = false ∨ s.proc.clock % 480 ≠ 0) → t = s)) ∧
  ∀ (edge : Bool) (levels : BenchLevels) (s : State), s.live = true → s.stage = .idle → s.inPeriod = true →
    s.sessionOpen = true → s.proc.opening = false → s.proc.clock % 480 ≠ 479 →
    (∀ i : Fin 8, s.links[i].heard = true) → (∀ l : Line, (s.proc.lines.get l).count ≠ 960) →
    s.examineHouse.lossDue = false →
    ∃ t, exec (.samplePeriod edge levels) s = .next t ∧ t.inProgress = s.trackPeriod.inProgress ∧
      t.tracks = s.trackPeriod.tracks ∧ t.events = s.trackPeriod.events

/-! ### The Mark List -/

/-- The entries that can be had, by the stored Marks and the Mark Cursors of attached BINDING Readers (R157), and an
insertion request by the lost count and those entries: stored as the next serial, or counted lost with MARKS_LOST;
after losses, a MARKS_LOST Mark first and then the Mark, or one more counted lost with MARKS_LOST, and the MARKS_LOST
Mark in its place where an entry is to be had; the lost count stops at 4,294,967,295. The MARKS_LOST Mark carries
the count, up to 65,535, and the first lost time, and storing it clears both (R153, R159, R160, R161). A storing in a full list frees the oldest Mark first and sets MARK on both
ports (R159, R163); a freeing moves the Mark Cursor of an attached YIELDING Reader that it reaches past the Mark,
adds to its missed count, sets MARK_CUT on its port and overtakes a transfer that names the Mark, and leaves any
other Reader (R158, R144, R146). -/
def Obligations.InsertionTable : Prop :=
  ∀ (s : State) (r : MarkRequest), s.marks.marks.length ≤ 1024 →
    let t := s.insertMark r
    let entries := s.obtainableEntries
    let made := fun (n : Nat) (m : Mark) => m.serial = n ∧ m.kind = r.kind ∧ m.origin = r.origin ∧
      m.time = r.time ∧ m.arg = r.arg ∧ m.tag = r.tag ∧ m.clamped = r.clamped
    let lostMark := fun (k : Nat) (m : Mark) => m.serial = s.marks.next ∧ m.kind = .marksLost ∧
      m.origin = .device ∧ m.arg = BitVec.ofNat 16 (min k 65535) ∧ m.tag = none ∧ m.clamped = false ∧
      (∀ time, s.marks.firstLost = some time → m.time = time) ∧
      ∃ time, m = s.makeMark ⟨.marksLost, .device, time, BitVec.ofNat 16 (min k 65535), none, false, false⟩
    let more := if s.marks.lost < 4294967295 then s.marks.lost + 1 else s.marks.lost
    let count := s.marks.marks.length
    let oldest := s.marks.next - count
    (count ≤ 1022 → entries = 2) ∧
    (count = 1023 → (s.markKept oldest → entries = 1) ∧ (¬s.markKept oldest → entries = 2)) ∧
    (count = 1024 → (s.markKept oldest → entries = 0) ∧
      (¬s.markKept oldest → s.markKept (oldest + 1) → entries = 1) ∧
      (¬s.markKept (oldest + 1) → entries = 2)) ∧
    (s.marks.lost = 0 → 1 ≤ entries → t.marks.next = s.marks.next + 1 ∧ t.marks.lost = 0 ∧
      ∃ m, t.marks.marks.getLast? = some m ∧ made s.marks.next m) ∧
    (s.marks.lost = 0 → entries = 0 → t.marks = { s.marks with lost := 1, firstLost := some r.time } ∧
      ∀ p : Port, (t.events.get p).flags = (s.events.get p).flags ||| eventMask .marksLost) ∧
    (0 < s.marks.lost → entries = 2 → t.marks.next = s.marks.next + 2 ∧ t.marks.lost = 0 ∧
      t.marks.firstLost = none ∧ (∀ p : Port, (t.events.get p).flags &&& eventMask .mark ≠ 0) ∧
      (∃ m, t.marks.marks.getLast? = some m ∧ made (s.marks.next + 1) m) ∧
      ∃ m, t.marks.marks.dropLast.getLast? = some m ∧ lostMark s.marks.lost m) ∧
    (0 < s.marks.lost → entries = 1 → t.marks.next = s.marks.next + 1 ∧ t.marks.lost = 0 ∧
      t.marks.firstLost = none ∧
      (∀ p : Port, (t.events.get p).flags &&& eventMask .marksLost ≠ 0 ∧
        (t.events.get p).flags &&& eventMask .mark ≠ 0) ∧
      ∃ m, t.marks.marks.getLast? = some m ∧ lostMark more m) ∧
    (0 < s.marks.lost → entries = 0 → t.marks = { s.marks with lost := more } ∧
      ∀ p : Port, (t.events.get p).flags = (s.events.get p).flags ||| eventMask .marksLost) ∧
    (s.marks.lost = 0 → 1 ≤ entries →
      let u := if 1024 ≤ s.marks.marks.length then s.freeMark else s
      t.marks.marks = u.marks.marks ++ [s.makeMark r] ∧ t.readers = u.readers ∧
        ∀ p : Port, (t.events.get p).flags = (u.events.get p).flags ||| eventMask .mark) ∧
    let q := s.marks.next - s.marks.marks.length
    let f := s.freeMark
    f = { s with
      marks := { s.marks with marks := s.marks.marks.tail }
      readers := f.readers
      events := f.events } ∧
    ∀ p : Port,
      let x := s.readers.get p
      let y := f.readers.get p
      let reached := x.state ≠ .detached ∧ x.retention = some .yielding ∧ x.mark ≤ q
      (¬reached → y = x ∧ f.events.get p = s.events.get p) ∧
      (reached → f.events.get p = { s.events.get p with
        flags := (s.events.get p).flags ||| eventMask .markCut }) ∧
      (reached → y = { x with
        mark := q + 1
        missed := if x.missed < 4294967295 then x.missed + 1 else x.missed
        flight := y.flight }) ∧
      (reached → x.flight = none → y.flight = none) ∧
      ∀ g, reached → x.flight = some g →
        (∀ first count, g.delivery = .marks first count → g.overtaken = none → first ≤ q →
          q < first + count → y.flight = some { g with overtaken := some g.edges }) ∧
        ((g.overtaken ≠ none ∨ ¬∃ first count, g.delivery = .marks first count ∧ first ≤ q ∧
          q < first + count) → y.flight = some g)

/-- A Mark's block reference: the Sequence of a stored Block that covers its time; else N when its time lies in a
recording Block Period in progress and no Gap waits; else absent (R154). Its RESTRICTED flag is set in SIDEBAR, when
it is asked for, in a RESTRICTED stored Block, in a Block in Progress that is to be RESTRICTED and in a restricted
Gap, and is else clear (R155). The Proceedings State it sees is the present one, and for the Marks of a Block
Boundary, once its finished Block is dealt with, the state after the boundary (R154). -/
def Obligations.MarkReferences : Prop :=
  ∀ (s : State) (r : MarkRequest),
    let m := s.makeMark r
    let now := match s.stage with
      | .idle => s.proc.state
      | .begun => s.proc.state
      | .turned next _ => next
    let covers := fun (b : Block) => b.time ≤ r.time ∧ r.time ≤ b.spanEnd
    let current := s.proc.state ≠ .closed ∧ 480 * s.proc.periods ≤ r.time ∧
      r.time ≤ 480 * s.proc.periods + 479
    let inGap := ∃ g, s.ring.gap = some g ∧ g.restricted = true ∧ g.firstTime ≤ r.time ∧ r.time ≤ g.spanEnd
    ((∃ b ∈ s.ring.blocks, covers b) →
      ∃ b ∈ s.ring.blocks, covers b ∧ m.block = some b.sequence ∧
        (b.cls = .restricted → m.restricted = true)) ∧
    ((∀ b ∈ s.ring.blocks, ¬covers b) → current → s.proc.recording = true → s.ring.gap = none →
      m.block = some s.ring.next) ∧
    ((∀ b ∈ s.ring.blocks, ¬covers b) →
      (¬current ∨ s.proc.recording = false ∨ s.ring.gap ≠ none) → m.block = none) ∧
    (now = .sidebar → m.restricted = true) ∧ (r.askRestricted = true → m.restricted = true) ∧
    (current → s.proc.restricted = true → s.proc.verify = false → m.restricted = true) ∧
    (inGap → m.restricted = true) ∧
    (now ≠ .sidebar → r.askRestricted = false →
      (∀ b ∈ s.ring.blocks, covers b → b.cls ≠ .restricted) →
      ¬(current ∧ s.proc.restricted = true ∧ s.proc.verify = false) → ¬inGap → m.restricted = false)

/-! ### Invariants that every step keeps -/

/-- Every invariant below holds right after reset. -/
def Obligations.InvariantsAtReset : Prop :=
  State.reset.recordWf ∧ State.reset.settingsWf ∧ State.reset.samplesWf ∧ State.reset.floorWf ∧
    State.reset.procWf

/-- The stored Blocks stay one consecutive run of at most 8192 Sequences, the Marks one consecutive run of at most
1024 serials, every attached Reader's cursors stay within them, and every Hold stays within the ring (R103, R117,
R125, R152): no BINDING claim is ever freed over. -/
def Obligations.RecordKept : Prop :=
  ∀ s t : State, s.recordWf → step s = .next t → t.recordWf

/-- The Working Settings stay within Table 11.1, with a valid Active Plan, and what waits stays so too (R188,
R190, R36). -/
def Obligations.SettingsKept : Prop :=
  ∀ s t : State, s.settingsWf → step s = .next t → t.settingsWf

/-- Every sample stored, or being assembled, stays within the range of its Block's width (R45). -/
def Obligations.SamplesKept : Prop :=
  ∀ s t : State, s.samplesWf → step s = .next t → t.samplesWf

/-- A Floor Holder stays ACTIVE or HANGING, and a challenge is counted only for a challenger (R69). CLOSED stays
without a target and without a Block in progress, and an open Session keeps a number from 1 to 65535 (R78, R80,
R84, R91). -/
def Obligations.FloorAndProceedingsKept : Prop :=
  (∀ s t : State, s.floorWf → step s = .next t → t.floorWf) ∧
  ∀ s t : State, s.procWf → step s = .next t → t.procWf
end

