-- ==== Sys2Proof/Laws/State.lean ====
section
/-! SUPPORT. One lemma per field for each named update of the state, and the laws of a pair of ports. -/

namespace Sys2Proof.Machine

/-! ### A thing for each port -/

@[simp] theorem Both.get_set {α : Type} (x : Both α) (p : Port) (v : α) : (x.set p v).get p = v := by
  cases p <;> rfl

@[simp] theorem Both.get_set_other {α : Type} (x : Both α) (p : Port) (v : α) :
    (x.set p v).get (otherPort p) = x.get (otherPort p) := by
  cases p <;> rfl

@[simp] theorem Both.other_get_set {α : Type} (x : Both α) (p : Port) (v : α) :
    (x.set (otherPort p) v).get p = x.get p := by
  cases p <;> rfl

@[simp] theorem Both.set_set {α : Type} (x : Both α) (p : Port) (v w : α) :
    (x.set p v).set p w = x.set p w := by
  cases p <;> rfl

@[simp] theorem Both.set_get {α : Type} (x : Both α) (p : Port) : x.set p (x.get p) = x := by
  cases p <;> rfl

@[simp] theorem Both.get_map {α β : Type} (x : Both α) (f : α → β) (p : Port) :
    (x.map f).get p = f (x.get p) := by
  cases p <;> rfl

@[simp] theorem Both.get_same {α : Type} (v : α) (p : Port) : (Both.same v).get p = v := by
  cases p <;> rfl

@[simp] theorem Both.get_update {α : Type} (x : Both α) (p : Port) (f : α → α) :
    (x.update p f).get p = f (x.get p) := by
  cases p <;> rfl

@[simp] theorem Both.update_update {α : Type} (x : Both α) (p : Port) (f g : α → α) :
    (x.update p f).update p g = x.update p (g ∘ f) := by
  cases p <;> rfl

theorem Both.ext_get {α : Type} {x y : Both α} (h : ∀ p, x.get p = y.get p) : x = y := by
  cases x; cases y; exact congrArg₂ Both.mk (h .a) (h .b)

theorem otherPort_cases (p q : Port) : q = p ∨ q = otherPort p := by
  cases p <;> cases q <;> decide

/-! ### raise -/

@[simp] theorem State.raise_pending (s : State) (p : Port) (e : Event) :
    (s.raise p e).pending = s.pending := rfl
@[simp] theorem State.raise_power (s : State) (p : Port) (e : Event) : (s.raise p e).power = s.power := rfl
@[simp] theorem State.raise_resetLine (s : State) (p : Port) (e : Event) :
    (s.raise p e).resetLine = s.resetLine := rfl
@[simp] theorem State.raise_inPeriod (s : State) (p : Port) (e : Event) :
    (s.raise p e).inPeriod = s.inPeriod := rfl
@[simp] theorem State.raise_frameSyncs (s : State) (p : Port) (e : Event) :
    (s.raise p e).frameSyncs = s.frameSyncs := rfl
@[simp] theorem State.raise_stage (s : State) (p : Port) (e : Event) : (s.raise p e).stage = s.stage := rfl
@[simp] theorem State.raise_links (s : State) (p : Port) (e : Event) : (s.raise p e).links = s.links := rfl
@[simp] theorem State.raise_clockUnit (s : State) (p : Port) (e : Event) :
    (s.raise p e).clockUnit = s.clockUnit := rfl
@[simp] theorem State.raise_plans (s : State) (p : Port) (e : Event) : (s.raise p e).plans = s.plans := rfl
@[simp] theorem State.raise_tracks (s : State) (p : Port) (e : Event) : (s.raise p e).tracks = s.tracks := rfl
@[simp] theorem State.raise_inProgress (s : State) (p : Port) (e : Event) :
    (s.raise p e).inProgress = s.inProgress := rfl
@[simp] theorem State.raise_activity (s : State) (p : Port) (e : Event) :
    (s.raise p e).activity = s.activity := rfl
@[simp] theorem State.raise_floor (s : State) (p : Port) (e : Event) : (s.raise p e).floor = s.floor := rfl
@[simp] theorem State.raise_proc (s : State) (p : Port) (e : Event) : (s.raise p e).proc = s.proc := rfl
@[simp] theorem State.raise_ring (s : State) (p : Port) (e : Event) : (s.raise p e).ring = s.ring := rfl
@[simp] theorem State.raise_marks (s : State) (p : Port) (e : Event) : (s.raise p e).marks = s.marks := rfl
@[simp] theorem State.raise_readers (s : State) (p : Port) (e : Event) :
    (s.raise p e).readers = s.readers := rfl
@[simp] theorem State.raise_ports (s : State) (p : Port) (e : Event) : (s.raise p e).ports = s.ports := rfl
@[simp] theorem State.raise_events (s : State) (p : Port) (e : Event) :
    (s.raise p e).events = s.events.update p fun x => { x with flags := x.flags ||| eventMask e } := rfl
@[simp] theorem State.raise_settings (s : State) (p : Port) (e : Event) :
    (s.raise p e).settings = s.settings := rfl
@[simp] theorem State.raise_changes (s : State) (p : Port) (e : Event) :
    (s.raise p e).changes = s.changes := rfl
@[simp] theorem State.raise_image (s : State) (p : Port) (e : Event) : (s.raise p e).image = s.image := rfl
@[simp] theorem State.raise_store (s : State) (p : Port) (e : Event) : (s.raise p e).store = s.store := rfl

/-! ### raiseBoth -/

@[simp] theorem State.raiseBoth_pending (s : State) (e : Event) : (s.raiseBoth e).pending = s.pending := rfl
@[simp] theorem State.raiseBoth_power (s : State) (e : Event) : (s.raiseBoth e).power = s.power := rfl
@[simp] theorem State.raiseBoth_resetLine (s : State) (e : Event) :
    (s.raiseBoth e).resetLine = s.resetLine := rfl
@[simp] theorem State.raiseBoth_inPeriod (s : State) (e : Event) :
    (s.raiseBoth e).inPeriod = s.inPeriod := rfl
@[simp] theorem State.raiseBoth_frameSyncs (s : State) (e : Event) :
    (s.raiseBoth e).frameSyncs = s.frameSyncs := rfl
@[simp] theorem State.raiseBoth_stage (s : State) (e : Event) : (s.raiseBoth e).stage = s.stage := rfl
@[simp] theorem State.raiseBoth_links (s : State) (e : Event) : (s.raiseBoth e).links = s.links := rfl
@[simp] theorem State.raiseBoth_clockUnit (s : State) (e : Event) :
    (s.raiseBoth e).clockUnit = s.clockUnit := rfl
@[simp] theorem State.raiseBoth_plans (s : State) (e : Event) : (s.raiseBoth e).plans = s.plans := rfl
@[simp] theorem State.raiseBoth_tracks (s : State) (e : Event) : (s.raiseBoth e).tracks = s.tracks := rfl
@[simp] theorem State.raiseBoth_inProgress (s : State) (e : Event) :
    (s.raiseBoth e).inProgress = s.inProgress := rfl
@[simp] theorem State.raiseBoth_activity (s : State) (e : Event) :
    (s.raiseBoth e).activity = s.activity := rfl
@[simp] theorem State.raiseBoth_floor (s : State) (e : Event) : (s.raiseBoth e).floor = s.floor := rfl
@[simp] theorem State.raiseBoth_proc (s : State) (e : Event) : (s.raiseBoth e).proc = s.proc := rfl
@[simp] theorem State.raiseBoth_ring (s : State) (e : Event) : (s.raiseBoth e).ring = s.ring := rfl
@[simp] theorem State.raiseBoth_marks (s : State) (e : Event) : (s.raiseBoth e).marks = s.marks := rfl
@[simp] theorem State.raiseBoth_readers (s : State) (e : Event) : (s.raiseBoth e).readers = s.readers := rfl
@[simp] theorem State.raiseBoth_ports (s : State) (e : Event) : (s.raiseBoth e).ports = s.ports := rfl
@[simp] theorem State.raiseBoth_events (s : State) (e : Event) :
    (s.raiseBoth e).events = ⟨{ s.events.a with flags := s.events.a.flags ||| eventMask e },
      { s.events.b with flags := s.events.b.flags ||| eventMask e }⟩ := rfl
@[simp] theorem State.raiseBoth_settings (s : State) (e : Event) :
    (s.raiseBoth e).settings = s.settings := rfl
@[simp] theorem State.raiseBoth_changes (s : State) (e : Event) : (s.raiseBoth e).changes = s.changes := rfl
@[simp] theorem State.raiseBoth_image (s : State) (e : Event) : (s.raiseBoth e).image = s.image := rfl
@[simp] theorem State.raiseBoth_store (s : State) (e : Event) : (s.raiseBoth e).store = s.store := rfl

/-! ### setResult -/

@[simp] theorem State.setResult_pending (s : State) (p : Port) (r : Result) :
    (s.setResult p r).pending = s.pending := rfl
@[simp] theorem State.setResult_power (s : State) (p : Port) (r : Result) :
    (s.setResult p r).power = s.power := rfl
@[simp] theorem State.setResult_resetLine (s : State) (p : Port) (r : Result) :
    (s.setResult p r).resetLine = s.resetLine := rfl
@[simp] theorem State.setResult_inPeriod (s : State) (p : Port) (r : Result) :
    (s.setResult p r).inPeriod = s.inPeriod := rfl
@[simp] theorem State.setResult_frameSyncs (s : State) (p : Port) (r : Result) :
    (s.setResult p r).frameSyncs = s.frameSyncs := rfl
@[simp] theorem State.setResult_stage (s : State) (p : Port) (r : Result) :
    (s.setResult p r).stage = s.stage := rfl
@[simp] theorem State.setResult_links (s : State) (p : Port) (r : Result) :
    (s.setResult p r).links = s.links := rfl
@[simp] theorem State.setResult_clockUnit (s : State) (p : Port) (r : Result) :
    (s.setResult p r).clockUnit = s.clockUnit := rfl
@[simp] theorem State.setResult_plans (s : State) (p : Port) (r : Result) :
    (s.setResult p r).plans = s.plans := rfl
@[simp] theorem State.setResult_tracks (s : State) (p : Port) (r : Result) :
    (s.setResult p r).tracks = s.tracks := rfl
@[simp] theorem State.setResult_inProgress (s : State) (p : Port) (r : Result) :
    (s.setResult p r).inProgress = s.inProgress := rfl
@[simp] theorem State.setResult_activity (s : State) (p : Port) (r : Result) :
    (s.setResult p r).activity = s.activity := rfl
@[simp] theorem State.setResult_floor (s : State) (p : Port) (r : Result) :
    (s.setResult p r).floor = s.floor := rfl
@[simp] theorem State.setResult_proc (s : State) (p : Port) (r : Result) :
    (s.setResult p r).proc = s.proc := rfl
@[simp] theorem State.setResult_ring (s : State) (p : Port) (r : Result) :
    (s.setResult p r).ring = s.ring := rfl
@[simp] theorem State.setResult_marks (s : State) (p : Port) (r : Result) :
    (s.setResult p r).marks = s.marks := rfl
@[simp] theorem State.setResult_readers (s : State) (p : Port) (r : Result) :
    (s.setResult p r).readers = s.readers := rfl
@[simp] theorem State.setResult_ports (s : State) (p : Port) (r : Result) :
    (s.setResult p r).ports = s.ports.update p fun x => { x with result := r } := rfl
@[simp] theorem State.setResult_events (s : State) (p : Port) (r : Result) :
    (s.setResult p r).events = s.events := rfl
@[simp] theorem State.setResult_settings (s : State) (p : Port) (r : Result) :
    (s.setResult p r).settings = s.settings := rfl
@[simp] theorem State.setResult_changes (s : State) (p : Port) (r : Result) :
    (s.setResult p r).changes = s.changes := rfl
@[simp] theorem State.setResult_image (s : State) (p : Port) (r : Result) :
    (s.setResult p r).image = s.image := rfl
@[simp] theorem State.setResult_store (s : State) (p : Port) (r : Result) :
    (s.setResult p r).store = s.store := rfl

/-! ### setOut -/

@[simp] theorem State.setOut_pending (s : State) (p : Port) (b : List (Option Byte)) (c : List (Option Bool)) :
    (s.setOut p b c).pending = s.pending := rfl
@[simp] theorem State.setOut_power (s : State) (p : Port) (b : List (Option Byte)) (c : List (Option Bool)) :
    (s.setOut p b c).power = s.power := rfl
@[simp] theorem State.setOut_resetLine (s : State) (p : Port) (b : List (Option Byte)) (c : List (Option Bool)) :
    (s.setOut p b c).resetLine = s.resetLine := rfl
@[simp] theorem State.setOut_inPeriod (s : State) (p : Port) (b : List (Option Byte)) (c : List (Option Bool)) :
    (s.setOut p b c).inPeriod = s.inPeriod := rfl
@[simp] theorem State.setOut_frameSyncs (s : State) (p : Port) (b : List (Option Byte)) (c : List (Option Bool)) :
    (s.setOut p b c).frameSyncs = s.frameSyncs := rfl
@[simp] theorem State.setOut_stage (s : State) (p : Port) (b : List (Option Byte)) (c : List (Option Bool)) :
    (s.setOut p b c).stage = s.stage := rfl
@[simp] theorem State.setOut_links (s : State) (p : Port) (b : List (Option Byte)) (c : List (Option Bool)) :
    (s.setOut p b c).links = s.links := rfl
@[simp] theorem State.setOut_clockUnit (s : State) (p : Port) (b : List (Option Byte)) (c : List (Option Bool)) :
    (s.setOut p b c).clockUnit = s.clockUnit := rfl
@[simp] theorem State.setOut_plans (s : State) (p : Port) (b : List (Option Byte)) (c : List (Option Bool)) :
    (s.setOut p b c).plans = s.plans := rfl
@[simp] theorem State.setOut_tracks (s : State) (p : Port) (b : List (Option Byte)) (c : List (Option Bool)) :
    (s.setOut p b c).tracks = s.tracks := rfl
@[simp] theorem State.setOut_inProgress (s : State) (p : Port) (b : List (Option Byte)) (c : List (Option Bool)) :
    (s.setOut p b c).inProgress = s.inProgress := rfl
@[simp] theorem State.setOut_activity (s : State) (p : Port) (b : List (Option Byte)) (c : List (Option Bool)) :
    (s.setOut p b c).activity = s.activity := rfl
@[simp] theorem State.setOut_floor (s : State) (p : Port) (b : List (Option Byte)) (c : List (Option Bool)) :
    (s.setOut p b c).floor = s.floor := rfl
@[simp] theorem State.setOut_proc (s : State) (p : Port) (b : List (Option Byte)) (c : List (Option Bool)) :
    (s.setOut p b c).proc = s.proc := rfl
@[simp] theorem State.setOut_ring (s : State) (p : Port) (b : List (Option Byte)) (c : List (Option Bool)) :
    (s.setOut p b c).ring = s.ring := rfl
@[simp] theorem State.setOut_marks (s : State) (p : Port) (b : List (Option Byte)) (c : List (Option Bool)) :
    (s.setOut p b c).marks = s.marks := rfl
@[simp] theorem State.setOut_readers (s : State) (p : Port) (b : List (Option Byte)) (c : List (Option Bool)) :
    (s.setOut p b c).readers = s.readers := rfl
@[simp] theorem State.setOut_ports (s : State) (p : Port) (b : List (Option Byte)) (c : List (Option Bool)) :
    (s.setOut p b c).ports = s.ports.update p fun x => { x with out := b, part := c, ended := none } := rfl
@[simp] theorem State.setOut_events (s : State) (p : Port) (b : List (Option Byte)) (c : List (Option Bool)) :
    (s.setOut p b c).events = s.events := rfl
@[simp] theorem State.setOut_settings (s : State) (p : Port) (b : List (Option Byte)) (c : List (Option Bool)) :
    (s.setOut p b c).settings = s.settings := rfl
@[simp] theorem State.setOut_changes (s : State) (p : Port) (b : List (Option Byte)) (c : List (Option Bool)) :
    (s.setOut p b c).changes = s.changes := rfl
@[simp] theorem State.setOut_image (s : State) (p : Port) (b : List (Option Byte)) (c : List (Option Bool)) :
    (s.setOut p b c).image = s.image := rfl
@[simp] theorem State.setOut_store (s : State) (p : Port) (b : List (Option Byte)) (c : List (Option Bool)) :
    (s.setOut p b c).store = s.store := rfl

/-! ### setLatch -/

@[simp] theorem State.setLatch_pending (s : State) (p : Port) (b : Bool) :
    (s.setLatch p b).pending = s.pending := rfl
@[simp] theorem State.setLatch_power (s : State) (p : Port) (b : Bool) :
    (s.setLatch p b).power = s.power := rfl
@[simp] theorem State.setLatch_resetLine (s : State) (p : Port) (b : Bool) :
    (s.setLatch p b).resetLine = s.resetLine := rfl
@[simp] theorem State.setLatch_inPeriod (s : State) (p : Port) (b : Bool) :
    (s.setLatch p b).inPeriod = s.inPeriod := rfl
@[simp] theorem State.setLatch_frameSyncs (s : State) (p : Port) (b : Bool) :
    (s.setLatch p b).frameSyncs = s.frameSyncs := rfl
@[simp] theorem State.setLatch_stage (s : State) (p : Port) (b : Bool) :
    (s.setLatch p b).stage = s.stage := rfl
@[simp] theorem State.setLatch_links (s : State) (p : Port) (b : Bool) :
    (s.setLatch p b).links = s.links := rfl
@[simp] theorem State.setLatch_clockUnit (s : State) (p : Port) (b : Bool) :
    (s.setLatch p b).clockUnit = s.clockUnit := rfl
@[simp] theorem State.setLatch_plans (s : State) (p : Port) (b : Bool) :
    (s.setLatch p b).plans = s.plans := rfl
@[simp] theorem State.setLatch_tracks (s : State) (p : Port) (b : Bool) :
    (s.setLatch p b).tracks = s.tracks := rfl
@[simp] theorem State.setLatch_inProgress (s : State) (p : Port) (b : Bool) :
    (s.setLatch p b).inProgress = s.inProgress := rfl
@[simp] theorem State.setLatch_activity (s : State) (p : Port) (b : Bool) :
    (s.setLatch p b).activity = s.activity := rfl
@[simp] theorem State.setLatch_floor (s : State) (p : Port) (b : Bool) :
    (s.setLatch p b).floor = s.floor := rfl
@[simp] theorem State.setLatch_proc (s : State) (p : Port) (b : Bool) : (s.setLatch p b).proc = s.proc := rfl
@[simp] theorem State.setLatch_ring (s : State) (p : Port) (b : Bool) : (s.setLatch p b).ring = s.ring := rfl
@[simp] theorem State.setLatch_marks (s : State) (p : Port) (b : Bool) :
    (s.setLatch p b).marks = s.marks := rfl
@[simp] theorem State.setLatch_readers (s : State) (p : Port) (b : Bool) :
    (s.setLatch p b).readers = s.readers := rfl
@[simp] theorem State.setLatch_ports (s : State) (p : Port) (b : Bool) :
    (s.setLatch p b).ports = s.ports.update p fun x => { x with latch := b } := rfl
@[simp] theorem State.setLatch_events (s : State) (p : Port) (b : Bool) :
    (s.setLatch p b).events = s.events := rfl
@[simp] theorem State.setLatch_settings (s : State) (p : Port) (b : Bool) :
    (s.setLatch p b).settings = s.settings := rfl
@[simp] theorem State.setLatch_changes (s : State) (p : Port) (b : Bool) :
    (s.setLatch p b).changes = s.changes := rfl
@[simp] theorem State.setLatch_image (s : State) (p : Port) (b : Bool) :
    (s.setLatch p b).image = s.image := rfl
@[simp] theorem State.setLatch_store (s : State) (p : Port) (b : Bool) :
    (s.setLatch p b).store = s.store := rfl

/-! ### setReader -/

@[simp] theorem State.setReader_pending (s : State) (p : Port) (r : Reader) :
    (s.setReader p r).pending = s.pending := rfl
@[simp] theorem State.setReader_power (s : State) (p : Port) (r : Reader) :
    (s.setReader p r).power = s.power := rfl
@[simp] theorem State.setReader_resetLine (s : State) (p : Port) (r : Reader) :
    (s.setReader p r).resetLine = s.resetLine := rfl
@[simp] theorem State.setReader_inPeriod (s : State) (p : Port) (r : Reader) :
    (s.setReader p r).inPeriod = s.inPeriod := rfl
@[simp] theorem State.setReader_frameSyncs (s : State) (p : Port) (r : Reader) :
    (s.setReader p r).frameSyncs = s.frameSyncs := rfl
@[simp] theorem State.setReader_stage (s : State) (p : Port) (r : Reader) :
    (s.setReader p r).stage = s.stage := rfl
@[simp] theorem State.setReader_links (s : State) (p : Port) (r : Reader) :
    (s.setReader p r).links = s.links := rfl
@[simp] theorem State.setReader_clockUnit (s : State) (p : Port) (r : Reader) :
    (s.setReader p r).clockUnit = s.clockUnit := rfl
@[simp] theorem State.setReader_plans (s : State) (p : Port) (r : Reader) :
    (s.setReader p r).plans = s.plans := rfl
@[simp] theorem State.setReader_tracks (s : State) (p : Port) (r : Reader) :
    (s.setReader p r).tracks = s.tracks := rfl
@[simp] theorem State.setReader_inProgress (s : State) (p : Port) (r : Reader) :
    (s.setReader p r).inProgress = s.inProgress := rfl
@[simp] theorem State.setReader_activity (s : State) (p : Port) (r : Reader) :
    (s.setReader p r).activity = s.activity := rfl
@[simp] theorem State.setReader_floor (s : State) (p : Port) (r : Reader) :
    (s.setReader p r).floor = s.floor := rfl
@[simp] theorem State.setReader_proc (s : State) (p : Port) (r : Reader) :
    (s.setReader p r).proc = s.proc := rfl
@[simp] theorem State.setReader_ring (s : State) (p : Port) (r : Reader) :
    (s.setReader p r).ring = s.ring := rfl
@[simp] theorem State.setReader_marks (s : State) (p : Port) (r : Reader) :
    (s.setReader p r).marks = s.marks := rfl
@[simp] theorem State.setReader_readers (s : State) (p : Port) (r : Reader) :
    (s.setReader p r).readers = s.readers.set p r := rfl
@[simp] theorem State.setReader_ports (s : State) (p : Port) (r : Reader) :
    (s.setReader p r).ports = s.ports := rfl
@[simp] theorem State.setReader_events (s : State) (p : Port) (r : Reader) :
    (s.setReader p r).events = s.events := rfl
@[simp] theorem State.setReader_settings (s : State) (p : Port) (r : Reader) :
    (s.setReader p r).settings = s.settings := rfl
@[simp] theorem State.setReader_changes (s : State) (p : Port) (r : Reader) :
    (s.setReader p r).changes = s.changes := rfl
@[simp] theorem State.setReader_image (s : State) (p : Port) (r : Reader) :
    (s.setReader p r).image = s.image := rfl
@[simp] theorem State.setReader_store (s : State) (p : Port) (r : Reader) :
    (s.setReader p r).store = s.store := rfl

/-! ### setProc -/

@[simp] theorem State.setProc_pending (s : State) (x : Proceedings) : (s.setProc x).pending = s.pending := rfl
@[simp] theorem State.setProc_power (s : State) (x : Proceedings) : (s.setProc x).power = s.power := rfl
@[simp] theorem State.setProc_resetLine (s : State) (x : Proceedings) :
    (s.setProc x).resetLine = s.resetLine := rfl
@[simp] theorem State.setProc_inPeriod (s : State) (x : Proceedings) :
    (s.setProc x).inPeriod = s.inPeriod := rfl
@[simp] theorem State.setProc_frameSyncs (s : State) (x : Proceedings) :
    (s.setProc x).frameSyncs = s.frameSyncs := rfl
@[simp] theorem State.setProc_stage (s : State) (x : Proceedings) : (s.setProc x).stage = s.stage := rfl
@[simp] theorem State.setProc_links (s : State) (x : Proceedings) : (s.setProc x).links = s.links := rfl
@[simp] theorem State.setProc_clockUnit (s : State) (x : Proceedings) :
    (s.setProc x).clockUnit = s.clockUnit := rfl
@[simp] theorem State.setProc_plans (s : State) (x : Proceedings) : (s.setProc x).plans = s.plans := rfl
@[simp] theorem State.setProc_tracks (s : State) (x : Proceedings) : (s.setProc x).tracks = s.tracks := rfl
@[simp] theorem State.setProc_inProgress (s : State) (x : Proceedings) :
    (s.setProc x).inProgress = s.inProgress := rfl
@[simp] theorem State.setProc_activity (s : State) (x : Proceedings) :
    (s.setProc x).activity = s.activity := rfl
@[simp] theorem State.setProc_floor (s : State) (x : Proceedings) : (s.setProc x).floor = s.floor := rfl
@[simp] theorem State.setProc_proc (s : State) (x : Proceedings) : (s.setProc x).proc = x := rfl
@[simp] theorem State.setProc_ring (s : State) (x : Proceedings) : (s.setProc x).ring = s.ring := rfl
@[simp] theorem State.setProc_marks (s : State) (x : Proceedings) : (s.setProc x).marks = s.marks := rfl
@[simp] theorem State.setProc_readers (s : State) (x : Proceedings) : (s.setProc x).readers = s.readers := rfl
@[simp] theorem State.setProc_ports (s : State) (x : Proceedings) : (s.setProc x).ports = s.ports := rfl
@[simp] theorem State.setProc_events (s : State) (x : Proceedings) : (s.setProc x).events = s.events := rfl
@[simp] theorem State.setProc_settings (s : State) (x : Proceedings) :
    (s.setProc x).settings = s.settings := rfl
@[simp] theorem State.setProc_changes (s : State) (x : Proceedings) : (s.setProc x).changes = s.changes := rfl
@[simp] theorem State.setProc_image (s : State) (x : Proceedings) : (s.setProc x).image = s.image := rfl
@[simp] theorem State.setProc_store (s : State) (x : Proceedings) : (s.setProc x).store = s.store := rfl

/-! ### setTarget -/

@[simp] theorem State.setTarget_pending (s : State) (t : Option (Target × Party)) :
    (s.setTarget t).pending = s.pending := rfl
@[simp] theorem State.setTarget_power (s : State) (t : Option (Target × Party)) :
    (s.setTarget t).power = s.power := rfl
@[simp] theorem State.setTarget_resetLine (s : State) (t : Option (Target × Party)) :
    (s.setTarget t).resetLine = s.resetLine := rfl
@[simp] theorem State.setTarget_inPeriod (s : State) (t : Option (Target × Party)) :
    (s.setTarget t).inPeriod = s.inPeriod := rfl
@[simp] theorem State.setTarget_frameSyncs (s : State) (t : Option (Target × Party)) :
    (s.setTarget t).frameSyncs = s.frameSyncs := rfl
@[simp] theorem State.setTarget_stage (s : State) (t : Option (Target × Party)) :
    (s.setTarget t).stage = s.stage := rfl
@[simp] theorem State.setTarget_links (s : State) (t : Option (Target × Party)) :
    (s.setTarget t).links = s.links := rfl
@[simp] theorem State.setTarget_clockUnit (s : State) (t : Option (Target × Party)) :
    (s.setTarget t).clockUnit = s.clockUnit := rfl
@[simp] theorem State.setTarget_plans (s : State) (t : Option (Target × Party)) :
    (s.setTarget t).plans = s.plans := rfl
@[simp] theorem State.setTarget_tracks (s : State) (t : Option (Target × Party)) :
    (s.setTarget t).tracks = s.tracks := rfl
@[simp] theorem State.setTarget_inProgress (s : State) (t : Option (Target × Party)) :
    (s.setTarget t).inProgress = s.inProgress := rfl
@[simp] theorem State.setTarget_activity (s : State) (t : Option (Target × Party)) :
    (s.setTarget t).activity = s.activity := rfl
@[simp] theorem State.setTarget_floor (s : State) (t : Option (Target × Party)) :
    (s.setTarget t).floor = s.floor := rfl
@[simp] theorem State.setTarget_proc (s : State) (t : Option (Target × Party)) :
    (s.setTarget t).proc = { s.proc with target := t } := rfl
@[simp] theorem State.setTarget_ring (s : State) (t : Option (Target × Party)) :
    (s.setTarget t).ring = s.ring := rfl
@[simp] theorem State.setTarget_marks (s : State) (t : Option (Target × Party)) :
    (s.setTarget t).marks = s.marks := rfl
@[simp] theorem State.setTarget_readers (s : State) (t : Option (Target × Party)) :
    (s.setTarget t).readers = s.readers := rfl
@[simp] theorem State.setTarget_ports (s : State) (t : Option (Target × Party)) :
    (s.setTarget t).ports = s.ports := rfl
@[simp] theorem State.setTarget_events (s : State) (t : Option (Target × Party)) :
    (s.setTarget t).events = s.events := rfl
@[simp] theorem State.setTarget_settings (s : State) (t : Option (Target × Party)) :
    (s.setTarget t).settings = s.settings := rfl
@[simp] theorem State.setTarget_changes (s : State) (t : Option (Target × Party)) :
    (s.setTarget t).changes = s.changes := rfl
@[simp] theorem State.setTarget_image (s : State) (t : Option (Target × Party)) :
    (s.setTarget t).image = s.image := rfl
@[simp] theorem State.setTarget_store (s : State) (t : Option (Target × Party)) :
    (s.setTarget t).store = s.store := rfl

/-! ### setGeneral -/

@[simp] theorem State.setGeneral_pending (s : State) (g : GeneralSettings) :
    (s.setGeneral g).pending = s.pending := rfl
@[simp] theorem State.setGeneral_power (s : State) (g : GeneralSettings) :
    (s.setGeneral g).power = s.power := rfl
@[simp] theorem State.setGeneral_resetLine (s : State) (g : GeneralSettings) :
    (s.setGeneral g).resetLine = s.resetLine := rfl
@[simp] theorem State.setGeneral_inPeriod (s : State) (g : GeneralSettings) :
    (s.setGeneral g).inPeriod = s.inPeriod := rfl
@[simp] theorem State.setGeneral_frameSyncs (s : State) (g : GeneralSettings) :
    (s.setGeneral g).frameSyncs = s.frameSyncs := rfl
@[simp] theorem State.setGeneral_stage (s : State) (g : GeneralSettings) :
    (s.setGeneral g).stage = s.stage := rfl
@[simp] theorem State.setGeneral_links (s : State) (g : GeneralSettings) :
    (s.setGeneral g).links = s.links := rfl
@[simp] theorem State.setGeneral_clockUnit (s : State) (g : GeneralSettings) :
    (s.setGeneral g).clockUnit = s.clockUnit := rfl
@[simp] theorem State.setGeneral_plans (s : State) (g : GeneralSettings) :
    (s.setGeneral g).plans = s.plans := rfl
@[simp] theorem State.setGeneral_tracks (s : State) (g : GeneralSettings) :
    (s.setGeneral g).tracks = s.tracks := rfl
@[simp] theorem State.setGeneral_inProgress (s : State) (g : GeneralSettings) :
    (s.setGeneral g).inProgress = s.inProgress := rfl
@[simp] theorem State.setGeneral_activity (s : State) (g : GeneralSettings) :
    (s.setGeneral g).activity = s.activity := rfl
@[simp] theorem State.setGeneral_floor (s : State) (g : GeneralSettings) :
    (s.setGeneral g).floor = s.floor := rfl
@[simp] theorem State.setGeneral_proc (s : State) (g : GeneralSettings) :
    (s.setGeneral g).proc = s.proc := rfl
@[simp] theorem State.setGeneral_ring (s : State) (g : GeneralSettings) :
    (s.setGeneral g).ring = s.ring := rfl
@[simp] theorem State.setGeneral_marks (s : State) (g : GeneralSettings) :
    (s.setGeneral g).marks = s.marks := rfl
@[simp] theorem State.setGeneral_readers (s : State) (g : GeneralSettings) :
    (s.setGeneral g).readers = s.readers := rfl
@[simp] theorem State.setGeneral_ports (s : State) (g : GeneralSettings) :
    (s.setGeneral g).ports = s.ports := rfl
@[simp] theorem State.setGeneral_events (s : State) (g : GeneralSettings) :
    (s.setGeneral g).events = s.events := rfl
@[simp] theorem State.setGeneral_settings (s : State) (g : GeneralSettings) :
    (s.setGeneral g).settings = ⟨g, s.settings.guarded⟩ := rfl
@[simp] theorem State.setGeneral_changes (s : State) (g : GeneralSettings) :
    (s.setGeneral g).changes = s.changes := rfl
@[simp] theorem State.setGeneral_image (s : State) (g : GeneralSettings) :
    (s.setGeneral g).image = s.image := rfl
@[simp] theorem State.setGeneral_store (s : State) (g : GeneralSettings) :
    (s.setGeneral g).store = s.store := rfl

/-! ### setGuarded -/

@[simp] theorem State.setGuarded_pending (s : State) (g : GuardedSettings) :
    (s.setGuarded g).pending = s.pending := rfl
@[simp] theorem State.setGuarded_power (s : State) (g : GuardedSettings) :
    (s.setGuarded g).power = s.power := rfl
@[simp] theorem State.setGuarded_resetLine (s : State) (g : GuardedSettings) :
    (s.setGuarded g).resetLine = s.resetLine := rfl
@[simp] theorem State.setGuarded_inPeriod (s : State) (g : GuardedSettings) :
    (s.setGuarded g).inPeriod = s.inPeriod := rfl
@[simp] theorem State.setGuarded_frameSyncs (s : State) (g : GuardedSettings) :
    (s.setGuarded g).frameSyncs = s.frameSyncs := rfl
@[simp] theorem State.setGuarded_stage (s : State) (g : GuardedSettings) :
    (s.setGuarded g).stage = s.stage := rfl
@[simp] theorem State.setGuarded_links (s : State) (g : GuardedSettings) :
    (s.setGuarded g).links = s.links := rfl
@[simp] theorem State.setGuarded_clockUnit (s : State) (g : GuardedSettings) :
    (s.setGuarded g).clockUnit = s.clockUnit := rfl
@[simp] theorem State.setGuarded_plans (s : State) (g : GuardedSettings) :
    (s.setGuarded g).plans = s.plans := rfl
@[simp] theorem State.setGuarded_tracks (s : State) (g : GuardedSettings) :
    (s.setGuarded g).tracks = s.tracks := rfl
@[simp] theorem State.setGuarded_inProgress (s : State) (g : GuardedSettings) :
    (s.setGuarded g).inProgress = s.inProgress := rfl
@[simp] theorem State.setGuarded_activity (s : State) (g : GuardedSettings) :
    (s.setGuarded g).activity = s.activity := rfl
@[simp] theorem State.setGuarded_floor (s : State) (g : GuardedSettings) :
    (s.setGuarded g).floor = s.floor := rfl
@[simp] theorem State.setGuarded_proc (s : State) (g : GuardedSettings) :
    (s.setGuarded g).proc = s.proc := rfl
@[simp] theorem State.setGuarded_ring (s : State) (g : GuardedSettings) :
    (s.setGuarded g).ring = s.ring := rfl
@[simp] theorem State.setGuarded_marks (s : State) (g : GuardedSettings) :
    (s.setGuarded g).marks = s.marks := rfl
@[simp] theorem State.setGuarded_readers (s : State) (g : GuardedSettings) :
    (s.setGuarded g).readers = s.readers := rfl
@[simp] theorem State.setGuarded_ports (s : State) (g : GuardedSettings) :
    (s.setGuarded g).ports = s.ports := rfl
@[simp] theorem State.setGuarded_events (s : State) (g : GuardedSettings) :
    (s.setGuarded g).events = s.events := rfl
@[simp] theorem State.setGuarded_settings (s : State) (g : GuardedSettings) :
    (s.setGuarded g).settings = ⟨s.settings.general, g⟩ := rfl
@[simp] theorem State.setGuarded_changes (s : State) (g : GuardedSettings) :
    (s.setGuarded g).changes = s.changes := rfl
@[simp] theorem State.setGuarded_image (s : State) (g : GuardedSettings) :
    (s.setGuarded g).image = s.image := rfl
@[simp] theorem State.setGuarded_store (s : State) (g : GuardedSettings) :
    (s.setGuarded g).store = s.store := rfl

/-! ### joinGap -/

@[simp] theorem State.joinGap_pending (s : State) (b : Block) : (s.joinGap b).pending = s.pending := rfl
@[simp] theorem State.joinGap_power (s : State) (b : Block) : (s.joinGap b).power = s.power := rfl
@[simp] theorem State.joinGap_resetLine (s : State) (b : Block) : (s.joinGap b).resetLine = s.resetLine := rfl
@[simp] theorem State.joinGap_inPeriod (s : State) (b : Block) : (s.joinGap b).inPeriod = s.inPeriod := rfl
@[simp] theorem State.joinGap_frameSyncs (s : State) (b : Block) :
    (s.joinGap b).frameSyncs = s.frameSyncs := rfl
@[simp] theorem State.joinGap_stage (s : State) (b : Block) : (s.joinGap b).stage = s.stage := rfl
@[simp] theorem State.joinGap_links (s : State) (b : Block) : (s.joinGap b).links = s.links := rfl
@[simp] theorem State.joinGap_clockUnit (s : State) (b : Block) : (s.joinGap b).clockUnit = s.clockUnit := rfl
@[simp] theorem State.joinGap_plans (s : State) (b : Block) : (s.joinGap b).plans = s.plans := rfl
@[simp] theorem State.joinGap_tracks (s : State) (b : Block) : (s.joinGap b).tracks = s.tracks := rfl
@[simp] theorem State.joinGap_inProgress (s : State) (b : Block) :
    (s.joinGap b).inProgress = s.inProgress := rfl
@[simp] theorem State.joinGap_activity (s : State) (b : Block) : (s.joinGap b).activity = s.activity := rfl
@[simp] theorem State.joinGap_floor (s : State) (b : Block) : (s.joinGap b).floor = s.floor := rfl
@[simp] theorem State.joinGap_proc (s : State) (b : Block) : (s.joinGap b).proc = s.proc := rfl
@[simp] theorem State.joinGap_ring (s : State) (b : Block) :
    (s.joinGap b).ring = { s.ring with gap := some (Machine.joinGap s.ring.gap b) } := rfl
@[simp] theorem State.joinGap_marks (s : State) (b : Block) : (s.joinGap b).marks = s.marks := rfl
@[simp] theorem State.joinGap_readers (s : State) (b : Block) : (s.joinGap b).readers = s.readers := rfl
@[simp] theorem State.joinGap_ports (s : State) (b : Block) : (s.joinGap b).ports = s.ports := rfl
@[simp] theorem State.joinGap_events (s : State) (b : Block) : (s.joinGap b).events = s.events := rfl
@[simp] theorem State.joinGap_settings (s : State) (b : Block) : (s.joinGap b).settings = s.settings := rfl
@[simp] theorem State.joinGap_changes (s : State) (b : Block) : (s.joinGap b).changes = s.changes := rfl
@[simp] theorem State.joinGap_image (s : State) (b : Block) : (s.joinGap b).image = s.image := rfl
@[simp] theorem State.joinGap_store (s : State) (b : Block) : (s.joinGap b).store = s.store := rfl

/-! ### examineHouse -/

@[simp] theorem State.examineHouse_pending (s : State) : (s.examineHouse).pending = s.pending := rfl
@[simp] theorem State.examineHouse_power (s : State) : (s.examineHouse).power = s.power := rfl
@[simp] theorem State.examineHouse_resetLine (s : State) : (s.examineHouse).resetLine = s.resetLine := rfl
@[simp] theorem State.examineHouse_inPeriod (s : State) : (s.examineHouse).inPeriod = s.inPeriod := rfl
@[simp] theorem State.examineHouse_frameSyncs (s : State) : (s.examineHouse).frameSyncs = s.frameSyncs := rfl
@[simp] theorem State.examineHouse_stage (s : State) : (s.examineHouse).stage = s.stage := rfl
@[simp] theorem State.examineHouse_links (s : State) : (s.examineHouse).links = s.links := rfl
@[simp] theorem State.examineHouse_clockUnit (s : State)  :
    (s.examineHouse ).clockUnit = s.clockUnit.examine := rfl
@[simp] theorem State.examineHouse_plans (s : State) : (s.examineHouse).plans = s.plans := rfl
@[simp] theorem State.examineHouse_tracks (s : State) : (s.examineHouse).tracks = s.tracks := rfl
@[simp] theorem State.examineHouse_inProgress (s : State) : (s.examineHouse).inProgress = s.inProgress := rfl
@[simp] theorem State.examineHouse_activity (s : State) : (s.examineHouse).activity = s.activity := rfl
@[simp] theorem State.examineHouse_floor (s : State) : (s.examineHouse).floor = s.floor := rfl
@[simp] theorem State.examineHouse_proc (s : State) : (s.examineHouse).proc = s.proc := rfl
@[simp] theorem State.examineHouse_ring (s : State) : (s.examineHouse).ring = s.ring := rfl
@[simp] theorem State.examineHouse_marks (s : State) : (s.examineHouse).marks = s.marks := rfl
@[simp] theorem State.examineHouse_readers (s : State) : (s.examineHouse).readers = s.readers := rfl
@[simp] theorem State.examineHouse_ports (s : State) : (s.examineHouse).ports = s.ports := rfl
@[simp] theorem State.examineHouse_events (s : State) : (s.examineHouse).events = s.events := rfl
@[simp] theorem State.examineHouse_settings (s : State) : (s.examineHouse).settings = s.settings := rfl
@[simp] theorem State.examineHouse_changes (s : State) : (s.examineHouse).changes = s.changes := rfl
@[simp] theorem State.examineHouse_image (s : State) : (s.examineHouse).image = s.image := rfl
@[simp] theorem State.examineHouse_store (s : State) : (s.examineHouse).store = s.store := rfl

/-! ### What the port updates leave of derived values -/

@[simp] theorem State.setResult_setResult (s : State) (p : Port) (r r' : Result) :
    (s.setResult p r).setResult p r' = s.setResult p r' := by
  cases p <;> rfl

@[simp] theorem State.setOut_setOut (s : State) (p : Port) (b b' : List (Option Byte)) (c c' : List (Option Bool)) :
    (s.setOut p b c).setOut p b' c' = s.setOut p b' c' := by
  cases p <;> rfl

@[simp] theorem State.setReader_setReader (s : State) (p : Port) (x y : Reader) :
    (s.setReader p x).setReader p y = s.setReader p y := by
  cases p <;> rfl

theorem State.setReader_setOut (s : State) (p q : Port) (x : Reader) (b : List (Option Byte))
    (c : List (Option Bool)) :
    (s.setOut q b c).setReader p x = (s.setReader p x).setOut q b c := rfl

theorem State.setReader_setResult (s : State) (p q : Port) (x : Reader) (r : Result) :
    (s.setResult q r).setReader p x = (s.setReader p x).setResult q r := rfl

@[simp] theorem State.setOut_sessionOpen (s : State) (p : Port) (b : List (Option Byte))
    (c : List (Option Bool)) :
    (s.setOut p b c).sessionOpen = s.sessionOpen := rfl

@[simp] theorem State.setResult_sessionOpen (s : State) (p : Port) (r : Result) :
    (s.setResult p r).sessionOpen = s.sessionOpen := rfl

@[simp] theorem State.setOut_live (s : State) (p : Port) (b : List (Option Byte))
    (c : List (Option Bool)) :
    (s.setOut p b c).live = s.live := rfl

@[simp] theorem State.setOut_timingOf (s : State) (p q : Port) (b : List (Option Byte))
    (c : List (Option Bool)) (f : Frame) :
    (s.setOut p b c).timingOf q f = s.timingOf q f := rfl

@[simp] theorem State.setOut_obtainableSlots (s : State) (p : Port) (b : List (Option Byte))
    (c : List (Option Bool)) :
    (s.setOut p b c).obtainableSlots = s.obtainableSlots := rfl

@[simp] theorem State.setOut_obtainableEntries (s : State) (p : Port) (b : List (Option Byte))
    (c : List (Option Bool)) :
    (s.setOut p b c).obtainableEntries = s.obtainableEntries := rfl

end Sys2Proof.Machine
end

