-- ==== Sys2Proof/Laws/Keeps.lean ====
section
/-! SUPPORT. For each shared operation, the parts of the state it can reach: everything else is kept. A proof
about a command rewrites with these in place of unfolding the operation. -/

namespace Sys2Proof.Machine

/-! ### The ring and the Readers -/

theorem State.evaluate_keeps (s : State) (p : Port) :
    ∃ r e, s.evaluate p = { s with readers := r, events := e } := by
  unfold State.evaluate
  dsimp only
  split <;> split <;> exact ⟨_, _, rfl⟩

theorem State.evaluateBoth_keeps (s : State) :
    ∃ r e, s.evaluateBoth = { s with readers := r, events := e } := by
  unfold State.evaluateBoth
  obtain ⟨r, e, h⟩ := s.evaluate_keeps .a
  obtain ⟨r', e', h'⟩ := State.evaluate_keeps { s with readers := r, events := e } .b
  rw [h, h']
  exact ⟨_, _, rfl⟩

theorem State.raiseCut_keeps (s : State) (q : Nat) (p : Port) :
    ∃ e, s.raiseCut q p = { s with events := e } := by
  unfold State.raiseCut
  split <;> exact ⟨_, rfl⟩

theorem State.raiseTrimmed_keeps (s : State) (q : Nat) (p : Port) :
    ∃ e, s.raiseTrimmed q p = { s with events := e } := by
  unfold State.raiseTrimmed
  split <;> exact ⟨_, rfl⟩

theorem State.freeOldest_keeps (s : State) :
    ∃ r e g, s.freeOldest = { s with readers := r, events := e, ring := g } ∧
      g.blocks = s.ring.blocks.tail ∧ g.next = s.ring.next ∧ g.gap = s.ring.gap := by
  unfold State.freeOldest
  obtain ⟨e1, h1⟩ := s.raiseCut_keeps s.ring.oldest .a
  obtain ⟨e2, h2⟩ := (s.raiseCut s.ring.oldest .a).raiseCut_keeps s.ring.oldest .b
  rw [h1] at h2
  obtain ⟨e3, h3⟩ := State.raiseTrimmed_keeps { s with events := e2 } s.ring.oldest .a
  obtain ⟨e4, h4⟩ := State.raiseTrimmed_keeps { s with events := e3 } s.ring.oldest .b
  simp only [h1, h2, h3, h4]
  exact ⟨_, _, _, rfl, rfl, rfl, rfl⟩

theorem State.storeBlock_keeps (s : State) (b : Block) :
    ∃ r e g, s.storeBlock b = { s with readers := r, events := e, ring := g } ∧
      g.next = s.ring.next + 1 ∧ g.gap = s.ring.gap ∧
      g.blocks = (if s.ring.blocks.length ≥ 8192 then s.ring.blocks.tail else s.ring.blocks) ++
        [{ b with sequence := s.ring.next }] := by
  unfold State.storeBlock
  split
  · obtain ⟨r, e, g, h, hb, hn, hg⟩ := s.freeOldest_keeps
    simp only [h]
    obtain ⟨r', e', h'⟩ := State.evaluateBoth_keeps
      { s with readers := r, events := e, ring := g.append b }
    exact ⟨r', e', g.append b, h', by simp [Ring.append, hn], by simp [Ring.append, hg],
      by simp [Ring.append, hb, hn]⟩
  · obtain ⟨r', e', h'⟩ := State.evaluateBoth_keeps { s with ring := s.ring.append b }
    exact ⟨r', e', s.ring.append b, h', rfl, rfl, rfl⟩

theorem State.storeGap_keeps (s : State) (g : PendingGap) :
    ∃ r e x, s.storeGap g = { s with readers := r, events := e, ring := x } ∧
      x.next = s.ring.next + 1 ∧ x.gap = none ∧
      x.blocks = (if s.ring.blocks.length ≥ 8192 then s.ring.blocks.tail else s.ring.blocks) ++
        [s.gapBlock g] := by
  unfold State.storeGap
  obtain ⟨r, e, x, h, hn, _, hb⟩ := s.storeBlock_keeps (s.gapBlock g)
  simp only [h]
  exact ⟨_, _, _, rfl, hn, rfl, hb⟩

theorem State.tryStoreGap_keeps (s : State) :
    ∃ r e x, s.tryStoreGap = { s with readers := r, events := e, ring := x } := by
  unfold State.tryStoreGap
  split
  · exact ⟨_, _, _, rfl⟩
  · split
    · obtain ⟨r, e, x, h, _⟩ := s.storeGap_keeps _
      exact ⟨r, e, x, h⟩
    · exact ⟨_, _, _, rfl⟩

theorem State.drainGap_keeps (s : State) :
    ∃ r e x, s.drainGap = { s with readers := r, events := e, ring := x } := by
  unfold State.drainGap
  split
  · exact ⟨_, _, _, rfl⟩
  · exact s.tryStoreGap_keeps

theorem State.storeRecording_keeps (s : State) (b : Block) :
    ∃ r e x, s.storeRecording b = { s with readers := r, events := e, ring := x } := by
  unfold State.storeRecording
  split
  · split
    · obtain ⟨r, e, x, h, _⟩ := s.storeBlock_keeps b
      exact ⟨r, e, x, h⟩
    · exact ⟨_, _, _, rfl⟩
  · split
    · obtain ⟨r, e, x, h, _⟩ := s.storeGap_keeps _
      rw [h]
      obtain ⟨r', e', x', h', _⟩ := State.storeBlock_keeps
        { s with readers := r, events := e, ring := x } b
      exact ⟨r', e', x', h'⟩
    · split
      · obtain ⟨r, e, x, h, _⟩ := s.storeGap_keeps _
        exact ⟨r, e, x, h⟩
      · exact ⟨_, _, _, rfl⟩

theorem State.ringAtBoundary_keeps (s : State) (recording : Bool) (b : Block) :
    ∃ r e x, s.ringAtBoundary recording b = { s with readers := r, events := e, ring := x } := by
  unfold State.ringAtBoundary
  split
  · exact s.storeRecording_keeps b
  · exact s.tryStoreGap_keeps

/-! ### The Mark List -/

theorem State.freeMark_keeps (s : State) :
    ∃ r e, s.freeMark = { s with readers := r, events := e, marks := { s.marks with
      marks := s.marks.marks.tail } } := by
  unfold State.freeMark State.raiseMarkCut
  dsimp only
  split <;> split <;> exact ⟨_, _, rfl⟩

theorem State.storeMark_keeps (s : State) (q : MarkRequest) :
    ∃ r e, s.storeMark q = { s with readers := r, events := e, marks := { s.marks with
      marks := (if s.marks.marks.length ≥ 1024 then s.marks.marks.tail else s.marks.marks) ++
        [s.makeMark q]
      next := s.marks.next + 1 } } := by
  unfold State.storeMark
  dsimp only
  split
  · obtain ⟨r, e, h⟩ := s.freeMark_keeps
    rw [h]
    exact ⟨_, _, rfl⟩
  · exact ⟨_, _, rfl⟩

theorem State.countLost_keeps (s : State) (time : Nat) :
    ∃ e, s.countLost time = { s with events := e, marks := { s.marks with
      lost := countTo 4294967295 s.marks.lost
      firstLost := if s.marks.lost = 0 then some time else s.marks.firstLost } } := ⟨_, rfl⟩

theorem State.storeLost_keeps (s : State) :
    ∃ r e, s.storeLost = { s with readers := r, events := e, marks :=
      ⟨(if s.marks.marks.length ≥ 1024 then s.marks.marks.tail else s.marks.marks) ++
        [s.makeMark s.lostRequest], s.marks.next + 1, 0, none⟩ } := by
  unfold State.storeLost
  obtain ⟨r, e, h⟩ := s.storeMark_keeps s.lostRequest
  simp only [h]
  exact ⟨_, _, rfl⟩

/-- The four ways an insertion request is taken (R159 to R161). -/
theorem State.insertMark_cases (s : State) (q : MarkRequest) :
    (s.marks.lost = 0 ∧ 1 ≤ s.obtainableEntries ∧ s.insertMark q = s.storeMark q) ∨
    ((s.marks.lost = 0 ∧ s.obtainableEntries = 0 ∨ s.marks.lost ≠ 0 ∧ s.obtainableEntries = 0) ∧
      s.insertMark q = s.countLost q.time) ∨
    (s.marks.lost ≠ 0 ∧ s.obtainableEntries = 2 ∧ s.insertMark q = s.storeLost.storeMark q) ∨
    (s.marks.lost ≠ 0 ∧ s.obtainableEntries = 1 ∧ s.insertMark q = (s.countLost q.time).storeLost) := by
  have h : s.obtainableEntries = 0 ∨ s.obtainableEntries = 1 ∨ s.obtainableEntries = 2 := by
    unfold State.obtainableEntries
    dsimp only
    repeat' split
    all_goals simp
  unfold State.insertMark
  by_cases hl : s.marks.lost = 0 <;> rcases h with h | h | h <;> simp [hl, h]

theorem State.insertMark_keeps (s : State) (q : MarkRequest) :
    ∃ r e m, s.insertMark q = { s with readers := r, events := e, marks := m } := by
  rcases s.insertMark_cases q with ⟨_, _, h⟩ | ⟨_, h⟩ | ⟨_, _, h⟩ | ⟨_, _, h⟩
  · obtain ⟨r, e, h'⟩ := s.storeMark_keeps q
    exact ⟨r, e, _, h.trans h'⟩
  · exact ⟨_, _, _, h⟩
  · obtain ⟨r, e, h'⟩ := s.storeLost_keeps
    rw [h'] at h
    obtain ⟨r', e', h''⟩ := State.storeMark_keeps _ q
    exact ⟨r', e', _, h.trans h''⟩
  · obtain ⟨r', e', h''⟩ := (s.countLost q.time).storeLost_keeps
    exact ⟨r', e', _, h.trans h''⟩

theorem State.requestMark_keeps (s : State) (q : MarkRequest) :
    ∃ r e m, s.requestMark q = { s with readers := r, events := e, marks := m } := by
  unfold State.requestMark
  split
  · exact s.insertMark_keeps q
  · exact ⟨_, _, _, rfl⟩

theorem State.requestMark_open (s : State) (q : MarkRequest) (h : s.sessionOpen = true) :
    s.requestMark q = s.insertMark q := by
  simp [State.requestMark, h]

theorem State.requestMark_closed (s : State) (q : MarkRequest) (h : s.sessionOpen = false) :
    s.requestMark q = s := by
  simp [State.requestMark, h]

theorem State.drainLost_keeps (s : State) :
    ∃ r e m, s.drainLost = { s with readers := r, events := e, marks := m } := by
  unfold State.drainLost
  split
  · obtain ⟨r, e, h⟩ := s.storeLost_keeps
    exact ⟨r, e, _, h⟩
  · exact ⟨_, _, _, rfl⟩

/-! ### The clock and the links -/

theorem State.setClockState_keeps (s : State) (c : ClockState) :
    ∃ e, s.setClockState c = { s with clockUnit := { s.clockUnit with state := c }, events := e } := by
  unfold State.setClockState
  dsimp only
  split <;> exact ⟨_, rfl⟩

theorem State.applySource_keeps (s : State) (x : ClockSource) :
    ∃ e, s.applySource x = { s with
      settings := { s.settings with general := { s.settings.general with source := x } }
      clockUnit := { s.clockUnit with state := s.clockUnit.afterSetting x }
      events := e } := by
  unfold State.applySource
  dsimp only
  obtain ⟨e, h⟩ := State.setClockState_keeps { s with
    settings := { s.settings with general := { s.settings.general with source := x } } }
    (s.clockUnit.afterSetting x)
  exact ⟨e, h⟩

theorem State.loseHouse_keeps (s : State) :
    ∃ r e m, s.loseHouse = { s with
      clockUnit := { s.clockUnit with state := .fallback }, readers := r, events := e, marks := m } := by
  unfold State.loseHouse
  obtain ⟨e, h⟩ := s.setClockState_keeps .fallback
  rw [h]
  obtain ⟨r, e', m, h'⟩ := State.requestMark_keeps
    { s with clockUnit := { s.clockUnit with state := .fallback }, events := e }
    (clockMark s.proc.clock .internal)
  exact ⟨r, e', m, h'⟩

theorem State.receiveLink_keeps (s : State) (n : Fin 8) (x : LinkInput) :
    ∃ r e m, s.receiveLink n x = { s with
      links := s.links.set n (s.received n x), readers := r, events := e, marks := m } := by
  unfold State.receiveLink
  dsimp only
  split
  · obtain ⟨r, e, m, h⟩ := State.requestMark_keeps
      (State.raiseBoth { s with links := s.links.set n (s.received n x) } .link)
      (deviceMark .link s.proc.clock (linkArg n (s.received n x).state))
    exact ⟨r, e, m, h⟩
  · exact ⟨_, _, _, rfl⟩

theorem State.missLink_keeps (s : State) (n : Fin 8) :
    ∃ l r e m, s.missLink n = { s with links := l, readers := r, events := e, marks := m } := by
  unfold State.missLink
  split
  · exact ⟨_, _, _, _, rfl⟩
  · obtain ⟨r, e, m, h⟩ := s.receiveLink_keeps n .absent
    exact ⟨_, r, e, m, h⟩

theorem State.missLinks_keeps (s : State) :
    ∃ l r e m, s.missLinks = { s with links := l, readers := r, events := e, marks := m } := by
  unfold State.missLinks
  generalize List.finRange 8 = ns
  induction ns generalizing s with
  | nil => exact ⟨_, _, _, _, rfl⟩
  | cons n ns ih =>
    obtain ⟨l, r, e, m, h⟩ := s.missLink_keeps n
    obtain ⟨l', r', e', m', h'⟩ := ih (s.missLink n)
    rw [h] at h'
    exact ⟨l', r', e', m', by rw [List.foldl_cons, h]; exact h'⟩

theorem State.enableLink_keeps (s : State) (n : Fin 8) (on : Bool) :
    ∃ l r e m, s.enableLink n on = { s with
      links := l, readers := r, events := e, marks := m
      settings := { s.settings with general := { s.settings.general with
        linkEnable := s.settings.general.linkEnable.set n on } } } := by
  unfold State.enableLink
  split
  · rename_i h
    have hv : s.settings.general.linkEnable.set n on = s.settings.general.linkEnable := by
      rw [← h]; simp
    rw [hv]
    exact ⟨_, _, _, _, rfl⟩
  · have hu : ∃ l r e m, (if on && s.awaitsFrame n then s.receiveLink n .absent else s) =
        { s with links := l, readers := r, events := e, marks := m } := by
      split
      · obtain ⟨r, e, m, h⟩ := s.receiveLink_keeps n .absent
        exact ⟨_, r, e, m, h⟩
      · exact ⟨_, _, _, _, rfl⟩
    obtain ⟨l, r, e, m, hu⟩ := hu
    simp only [hu]
    split <;> exact ⟨_, _, _, _, rfl⟩

/-! ### Proceedings -/

theorem State.enterSidebar_keeps (s : State) (who : Party) (t : Option (Target × Party)) :
    ∃ r e m, s.enterSidebar who t = { s with
      proc := { s.proc with state := .sidebar, target := t, restricted := true }
      readers := r, events := e, marks := m } := by
  unfold State.enterSidebar
  obtain ⟨r, e, m, h⟩ := State.requestMark_keeps
    (s.setProc { s.proc with state := .sidebar, target := t, restricted := true })
    ⟨.state, who, s.proc.clock, (stateCode .sidebar).setWidth 16, none, false, false⟩
  dsimp only [State.setProc] at h ⊢
  rw [h]
  exact ⟨_, _, _, rfl⟩

/-- A request changes the target, and enters SIDEBAR at most (R84 to R89). -/
theorem State.request_keeps (s : State) (w : ProceedingsState) (who : Party) :
    ∃ r e m t, (s.request w who).2 = { s with
        proc := { s.proc with target := t }, readers := r, events := e, marks := m } ∨
      s.proc.state = .onRecord ∧ (s.request w who).2 = { s with
        proc := { s.proc with state := .sidebar, target := t, restricted := true }
        readers := r, events := e, marks := m } := by
  have hg : ∀ b x, ∃ t, (s.general b x who).2 = { s with proc := { s.proc with target := t } } := by
    intro b x
    unfold State.general
    repeat' split
    all_goals exact ⟨_, rfl⟩
  have hk : ∃ t, s = { s with proc := { s.proc with target := t } } := ⟨_, rfl⟩
  unfold State.request State.requestOff State.requestOn State.requestSidebar
  repeat' split
  all_goals first
    | exact ⟨_, _, _, _, .inl rfl⟩
    | (obtain ⟨t, h⟩ := hg _ _; exact ⟨_, _, _, t, .inl h⟩)
    | (obtain ⟨r, e, m, h⟩ := s.enterSidebar_keeps who none
       exact ⟨r, e, m, none, .inr ⟨by assumption, h⟩⟩)

theorem State.closeNow_keeps (s : State) :
    ∃ r e m, s.closeNow = { s with
      proc := { s.proc with state := .closed, target := none, restricted := false, recording := false }
      readers := r, events := e, marks := m } := by
  unfold State.closeNow
  dsimp only [State.setProc]
  obtain ⟨r, e, m, h⟩ := State.insertMark_keeps { s with
    proc := { s.proc with state := .closed, target := none, restricted := false, recording := false } }
    s.closeRequest
  rw [h]
  exact ⟨_, _, _, rfl⟩

/-! ### Frames -/

/-- A Frame that RESET does not meet, on a running part whose RESET line is released, no boundary open and
no transfer of the port in flight, does what its row does. -/
theorem State.takeFrame_ready (s : State) (p : Port) (w : LaneWidth) (edges : Nat) (act : State → State)
    (h : s.power = .running ∧ s.resetLine = false ∧ s.stage = .idle ∧ (s.readers.get p).flight = none) :
    s.takeFrame p w edges .steady act = act s := by
  obtain ⟨h1, h2, h3, h4⟩ := h
  simp [State.takeFrame, State.judge, State.atFrame, h1, h2, State.finishBoundary, h3, State.rise, h4]

theorem State.takeFrame_loading (s : State) (p : Port) (w : LaneWidth) (edges : Nat) (act : State → State)
    (h : s.power = .loading) (hr : s.resetLine = false) :
    s.takeFrame p w edges .steady act = s.answer p w edges .busy := by
  simp [State.takeFrame, State.judge, h, hr]

theorem State.takeFrame_reset (s : State) (p : Port) (w : LaneWidth) (edges : Nat) (reset : AtReset)
    (act : State → State) (h : s.power ≠ .off) (hr : s.resetLine = true) (hn : ∀ k, reset ≠ .asserted k) :
    s.takeFrame p w edges reset act = s.send p w edges zeros := by
  cases reset with
  | asserted k => exact absurd rfl (hn k)
  | _ => simp [State.takeFrame, h, hr]

theorem State.atFrame_ready (s : State) (p : Port)
    (h : s.power = .running ∧ s.resetLine = false ∧ s.stage = .idle ∧ (s.readers.get p).flight = none) :
    s.atFrame p = s := by
  obtain ⟨h1, -, h3, h4⟩ := h
  simp [State.atFrame, h1, State.finishBoundary, h3, State.rise, h4]

theorem State.atFrame_loading (s : State) (p : Port) (h : s.power = .loading) : s.atFrame p = s := by
  simp [State.atFrame, h]

/-- A Frame in which RESET is asserted: what its row would have shifted out, cut there (R169, R175). -/
theorem State.takeFrame_asserted (s : State) (p : Port) (w : LaneWidth) (edges k : Nat) (act : State → State)
    (h : s.power ≠ .off) (hr : s.resetLine = false) :
    s.takeFrame p w edges (.asserted k) act =
      (s.atFrame p).shiftCut p (bitsOut w k) (((s.takeFrame p w edges .steady act).rise p 0).ports.get p) := by
  simp [State.takeFrame, h, hr]

theorem State.takeFrame_released (s : State) (p : Port) (w : LaneWidth) (edges : Nat) (act : State → State)
    (hr : s.resetLine = false) : s.takeFrame p w edges .released act = s := by
  simp [State.takeFrame, hr]

theorem State.takeFrame_live (s : State) (p : Port) (w : LaneWidth) (edges : Nat) (act : State → State)
    (h : s.power = .running) (hr : s.resetLine = false) :
    s.takeFrame p w edges .steady act = act (s.finishBoundary.rise p 0) := by
  simp [State.takeFrame, State.judge, State.atFrame, h, hr]

/-- What a port shifts out changes nothing but that port's record of it. -/
theorem State.send_keeps (s : State) (p : Port) (w : LaneWidth) (edges : Nat)
    (reply : Nat → List (Option Byte)) :
    ∃ x, s.send p w edges reply = { s with ports := s.ports.set p x } ∧
      x.result = (s.ports.get p).result ∧ x.latch = (s.ports.get p).latch := ⟨_, rfl, rfl, rfl⟩

/-- The whole bytes of a Frame with a complete command byte, and the bits of a part byte (R167, R169). -/
theorem State.reply_eq (s : State) (p : Port) (f : Frame) (rest : Nat → List (Option Byte)) :
    ∃ bits, s.reply p f rest =
      s.setOut p (s.resultOut p ++ rest (wholeBytes (s.timingOf p f).lanes f.edges)) bits :=
  ⟨_, by simp [State.reply, State.send, wireOut, State.withResult]; rfl⟩

/-- A boundary's taking, once the finished Block is dealt with. -/
theorem State.atBoundary_turned (s : State) (due : State → Bool) (act : State → State)
    (h : s.turned = true) :
    s.atBoundary due act = if s.live && due s then act s else s := by
  have hb : s.boundaryDue = false := by
    unfold State.turned at h
    unfold State.boundaryDue
    cases hs : s.stage <;> simp_all
  have hr : s.reachTurned 0 = s := by
    unfold State.turned at h
    unfold State.reachTurned State.reachBegun
    cases hs : s.stage <;> simp_all
  simp [State.atBoundary, hr]

end Sys2Proof.Machine
end

