-- ==== Sys2Proof/Laws/Ports.lean ====
section
/-! SUPPORT. What a Frame does on a port that can take one, case by case: the per-command proofs start here. -/

namespace Sys2Proof.Machine

/-- A write command whose Frame holds exactly its parameter bytes (R172). -/
theorem State.writeFrame_exact (s : State) (p : Port) (f : Frame) (bs : List Byte)
    (act : State → List Byte → Result × State) (hr : s.takes p f) (hb : s.hears p f bs) :
    s.writeFrame p f bs.length act =
      (act (s.shifted p f) bs).2.setResult p (act (s.shifted p f) bs).1 := by
  unfold State.writeFrame
  rw [State.takeCommand, hr.2, State.takeFrame_ready s p _ _ _ hr.1]
  simp [hb.1, hb.2]

/-- A write command without parameters. -/
theorem State.writeFrame_bare (s : State) (p : Port) (f : Frame)
    (act : State → List Byte → Result × State) (hr : s.takes p f) (hb : f.edges = 0) :
    s.writeFrame p f 0 act = (act (s.shifted p f) []).2.setResult p (act (s.shifted p f) []).1 := by
  exact s.writeFrame_exact p f [] act hr ⟨by simpa using hb, rfl⟩

/-- A write command whose Frame holds anything else (R172). -/
theorem State.writeFrame_other (s : State) (p : Port) (f : Frame) (n : Nat)
    (act : State → List Byte → Result × State) (hr : s.takes p f)
    (hb : f.edges ≠ n * (s.timingOf p f).lanes.edgesPerByte) :
    s.writeFrame p f n act = s.afterWrite p f .badFrame := by
  unfold State.writeFrame
  rw [State.takeCommand, hr.2, State.takeFrame_ready s p _ _ _ hr.1]
  simp [State.afterWrite, hb]

/-- A read command that ended before its parameters were complete (Table 9.1 step 6). -/
theorem State.readFrame_short (s : State) (p : Port) (f : Frame) (n : Nat)
    (refusal : State → List Byte → Option Result) (data : State → List Byte → List Byte)
    (hr : s.takes p f) (hb : f.edges < n * (s.timingOf p f).lanes.edgesPerByte) :
    s.readFrame p f n refusal data = s.afterWrite p f .badFrame := by
  unfold State.readFrame
  rw [State.takeCommand, hr.2, State.takeFrame_ready s p _ _ _ hr.1]
  simp [State.afterWrite, hb]

/-- A read command that its parameters refuse. -/
theorem State.readFrame_refused (s : State) (p : Port) (f : Frame) (n : Nat) (r : Result)
    (refusal : State → List Byte → Option Result) (data : State → List Byte → List Byte)
    (hr : s.takes p f) (hb : n * (s.timingOf p f).lanes.edgesPerByte ≤ f.edges)
    (hf : refusal s (f.bytes (s.timingOf p f).lanes n) = some r) :
    s.readFrame p f n refusal data = s.afterRead p f n [] r := by
  unfold State.readFrame
  rw [State.takeCommand, hr.2, State.takeFrame_ready s p _ _ _ hr.1]
  simp [State.afterRead, Nat.not_lt.mpr hb, hf]

/-- A read command that gives its data (R173). -/
theorem State.readFrame_answered (s : State) (p : Port) (f : Frame) (n : Nat)
    (refusal : State → List Byte → Option Result) (data : State → List Byte → List Byte)
    (hr : s.takes p f) (hb : n * (s.timingOf p f).lanes.edgesPerByte ≤ f.edges)
    (hf : refusal s (f.bytes (s.timingOf p f).lanes n) = none) :
    s.readFrame p f n refusal data = s.afterRead p f n (data s (f.bytes (s.timingOf p f).lanes n))
      (if aligned (s.timingOf p f).lanes f.edges then .ok else .badFrame) := by
  unfold State.readFrame
  rw [State.takeCommand, hr.2, State.takeFrame_ready s p _ _ _ hr.1]
  simp [State.afterRead, Nat.not_lt.mpr hb, hf]

/-- A transfer command that its parameter refuses (R134, R142). -/
theorem State.transferFrame_refused (s : State) (p : Port) (f : Frame) (r : Result)
    (refusal : State → Byte → Option Result) (fixed : State → Byte → Delivery × List Byte)
    (hr : s.takes p f) (hb : (s.timingOf p f).lanes.edgesPerByte ≤ f.edges)
    (hf : refusal s (f.byteAt (s.timingOf p f).lanes 0) = some r) :
    s.transferFrame p f refusal fixed = s.afterRead p f 1 [] r := by
  unfold State.transferFrame
  rw [State.takeCommand, hr.2, State.takeFrame_ready s p _ _ _ hr.1]
  simp [State.afterRead, Nat.not_lt.mpr hb, hf]

/-- A transfer command that ended before its data phase (R134, R142). -/
theorem State.transferFrame_early (s : State) (p : Port) (f : Frame)
    (refusal : State → Byte → Option Result) (fixed : State → Byte → Delivery × List Byte)
    (hr : s.takes p f) (hb : (s.timingOf p f).lanes.edgesPerByte ≤ f.edges)
    (hf : refusal s (f.byteAt (s.timingOf p f).lanes 0) = none)
    (he : f.edges ≤ dataStart (s.timingOf p f)) :
    s.transferFrame p f refusal fixed = s.afterRead p f 1 [] .partialRead := by
  unfold State.transferFrame
  rw [State.takeCommand, hr.2, State.takeFrame_ready s p _ _ _ hr.1]
  simp [State.afterRead, Nat.not_lt.mpr hb, hf, he]

/-- A transfer command that reaches its data phase (R134, R142). -/
theorem State.transferFrame_begun (s : State) (p : Port) (f : Frame)
    (refusal : State → Byte → Option Result) (fixed : State → Byte → Delivery × List Byte)
    (hr : s.takes p f) (hb : (s.timingOf p f).lanes.edgesPerByte ≤ f.edges)
    (hf : refusal s (f.byteAt (s.timingOf p f).lanes 0) = none)
    (he : dataStart (s.timingOf p f) < f.edges) :
    s.transferFrame p f refusal fixed =
      State.launch (s.setOut p (s.resultOut p ++
        readOut (s.timingOf p f).lanes 1 [] (1 + (s.timingOf p f).latency.bytes)) []) p
        ⟨(fixed s (f.byteAt (s.timingOf p f).lanes 0)).1, (fixed s (f.byteAt (s.timingOf p f).lanes 0)).2,
          (s.timingOf p f).lanes, f.edges - dataStart (s.timingOf p f), none⟩ := by
  unfold State.transferFrame
  rw [State.takeCommand, hr.2, State.takeFrame_ready s p _ _ _ hr.1]
  simp [Nat.not_lt.mpr hb, hf, Nat.not_le.mpr he]

/-- The chip-select rise of a transfer of its kind, no boundary being open. -/
theorem State.riseOf_flight (s : State) (p : Port) (ofBlock : Bool) (more : Nat) (t : Transfer)
    (hl : s.live = true) (hs : s.stage = .idle) (hf : (s.readers.get p).flight = some t)
    (hk : t.delivery.isBlock = ofBlock) :
    s.riseOf p ofBlock more = s.endTransfer p { t with edges := t.edges + more } := by
  simp [State.riseOf, hl, State.inFlight, hf, hk, State.finishBoundary, hs, State.rise]

/-- The rise of a Frame whose transfer RESET has ended changes nothing but the record of what its port shifted out. -/
theorem State.riseEnded_keeps (s : State) (p : Port) (ofBlock : Bool) (more : Nat) :
    s.riseEnded p ofBlock more = s ∨ ∃ out part, s.riseEnded p ofBlock more = s.setOut p out part := by
  unfold State.riseEnded
  dsimp only
  split
  · exact .inl rfl
  · split
    · exact .inr ⟨_, _, rfl⟩
    · exact .inl rfl

/-- A Frame's shifted-out bytes change nothing but its port. -/
theorem State.shifted_eq (s : State) (p : Port) (f : Frame) :
    ∃ x, s.shifted p f = { s with ports := s.ports.set p x } ∧
      x.result = (s.ports.get p).result ∧ x.latch = (s.ports.get p).latch := ⟨_, rfl, rfl, rfl⟩

/-- A Reader's attachment read off its state (R125). -/
theorem Reader.attached_iff (x : Reader) : x.attached = true ↔ x.state ≠ .detached := by
  unfold Reader.attached
  cases x.state <;> simp

/-- A Session is open in every state but CLOSED (R78). -/
theorem State.sessionOpen_iff (s : State) : s.sessionOpen = true ↔ s.proc.state ≠ .closed := by
  unfold State.sessionOpen
  cases s.proc.state <;> simp

theorem Proceedings.closePending_iff (x : Proceedings) :
    x.closePending = true ↔ x.target.map Prod.fst = some .close := by
  unfold Proceedings.closePending
  rcases x.target with _ | ⟨t, w⟩
  · simp
  · cases t <;> simp

theorem State.live_iff (s : State) : s.live = true ↔ s.power = .running ∧ s.resetLine = false := by
  unfold State.live
  cases s.power <;> simp

end Sys2Proof.Machine
end

