-- ==== Sys2Proof/Laws/Boundary.lean ====
section
/-! SUPPORT. The parts of the state that a Block Boundary's takings and the passing of a Sample Period can
reach. -/

namespace Sys2Proof.Machine

theorem State.flushFloor_keeps (s : State) :
    ∃ g r e m, s.flushFloor = { s with stage := g, readers := r, events := e, marks := m } := by
  unfold State.flushFloor
  split
  · obtain ⟨r, e, m, h⟩ := State.requestMark_keeps { s with stage := .turned _ none } _
    exact ⟨_, r, e, m, h⟩
  all_goals exact ⟨_, _, _, _, rfl⟩

/-- With no FLOOR Mark waiting, a Mark of the boundary is only asked for. -/
theorem State.boundaryMark_plain (s : State) (q : MarkRequest) (next : ProceedingsState)
    (h : s.stage = .turned next none) : s.boundaryMark q = s.requestMark q := by
  obtain ⟨r, e, m, hk⟩ := s.requestMark_keeps q
  simp [State.boundaryMark, hk, h]

theorem State.boundaryMark_keeps (s : State) (q : MarkRequest) :
    ∃ g r e m, s.boundaryMark q = { s with stage := g, readers := r, events := e, marks := m } := by
  unfold State.boundaryMark
  dsimp only
  obtain ⟨r, e, m, h⟩ := s.requestMark_keeps q
  rw [h]
  split
  · split
    · rename_i next k holder restricted _ _
      obtain ⟨g, r', e', m', h'⟩ := State.flushFloor_keeps
        { s with
          readers := r
          events := e
          marks := m
          stage := .turned next (some (k - 1, holder, restricted)) }
      exact ⟨g, r', e', m', h'⟩
    · exact ⟨_, _, _, _, rfl⟩
  all_goals exact ⟨_, _, _, _, rfl⟩

theorem State.takeTarget_keeps (s : State) :
    ∃ x g r e m, s.takeTarget = { s with
      proc := { s.proc with state := x, target := none }
      stage := g, readers := r, events := e, marks := m } := by
  unfold State.takeTarget
  dsimp only
  split
  · exact ⟨_, _, _, _, _, rfl⟩
  · obtain ⟨g, r, e, m, h⟩ := State.boundaryMark_keeps
      ((s.setTarget none).setProc { (s.setTarget none).proc with state := s.stateForMarks })
      ⟨.state, s.targetOrigin, s.proc.clock, (stateCode s.stateForMarks).setWidth 16, none, false, false⟩
    rw [h]
    exact ⟨_, _, _, _, _, rfl⟩

theorem State.takeArmed_keeps (s : State) (plan : Plan) (hp : s.plans.armed = some plan) :
    ∃ g r e m, s.takeArmed = { s with
      settings := { s.settings with general := { s.settings.general with plan := plan } }
      plans := { s.plans with armed := none, generation := s.plans.generation + 1 }
      activity := Vector.replicate 32 startActivity
      floor := startFloor
      tracks := { s.tracks with clips := Vector.replicate 32 0, restrictedClip := false }
      stage := g, readers := r, events := e, marks := m } := by
  unfold State.takeArmed
  simp only [hp]
  obtain ⟨g, r, e, m, h⟩ := State.boundaryMark_keeps (s.activate plan)
    (deviceMark .plan (s.activate plan).proc.clock (s.activate plan).plans.generation)
  exact ⟨g, r, e, m, h⟩

theorem State.takeGain_keeps (s : State) (k : Fin 32) :
    ∃ g r e m, s.takeGain k = { s with
      settings := { s.settings with general := { s.settings.general with
        gain := s.settings.general.gain.set k (s.changes.gain[k].getD s.settings.general.gain[k]) } }
      changes := { s.changes with gain := s.changes.gain.set k none }
      stage := g, readers := r, events := e, marks := m } := by
  unfold State.takeGain
  split
  · rename_i h
    have h1 : s.changes.gain.set k.val none = s.changes.gain := by
      conv_rhs => rw [← Vector.set_getElem_self (xs := s.changes.gain) (i := k.val) k.isLt]
      congr 1
      exact h.symm
    rw [h, h1]
    simp only [Option.getD_none, Fin.getElem_fin, Vector.set_getElem_self]
    exact ⟨_, _, _, _, rfl⟩
  · rename_i v h
    rw [h]
    dsimp only [Option.getD_some]
    obtain ⟨g, r, e, m, hm⟩ := State.boundaryMark_keeps { s with
      settings := { s.settings with general := { s.settings.general with
        gain := s.settings.general.gain.set k v } }
      changes := { s.changes with gain := s.changes.gain.set k none } }
      (deviceMark .level s.proc.clock (levelArg k v))
    exact ⟨g, r, e, m, hm⟩

theorem State.takeGains_keeps (s : State) (order : List (Fin 32)) :
    ∃ x c g r e m, s.takeGains order = { s with
      settings := { s.settings with general := { s.settings.general with gain := x } }
      changes := { s.changes with gain := c }
      stage := g, readers := r, events := e, marks := m } := by
  unfold State.takeGains
  generalize order ++ List.finRange 32 = ks
  induction ks generalizing s with
  | nil => exact ⟨_, _, _, _, _, _, rfl⟩
  | cons k ks ih =>
    obtain ⟨g, r, e, m, h⟩ := s.takeGain_keeps k
    obtain ⟨x, c, g', r', e', m', h'⟩ := ih (s.takeGain k)
    rw [h] at h'
    exact ⟨x, c, g', r', e', m', by rw [List.foldl_cons, h]; exact h'⟩

theorem State.markSource_keeps (s : State) (before : ClockSource) :
    ∃ g r e m, s.markSource before = { s with stage := g, readers := r, events := e, marks := m } := by
  unfold State.markSource
  split
  · exact ⟨_, _, _, _, rfl⟩
  · exact s.boundaryMark_keeps _

theorem State.takeReturn_keeps (s : State) :
    ∃ g r e m, s.takeReturn = { s with
      clockUnit := { s.clockUnit with state := .house }
      stage := g, readers := r, events := e, marks := m } := by
  unfold State.takeReturn State.houseReturns
  obtain ⟨e, h⟩ := s.setClockState_keeps .house
  rw [h]
  obtain ⟨g, r, e', m, h'⟩ := State.markSource_keeps
    { s with clockUnit := { s.clockUnit with state := .house }, events := e } s.sourceInUse
  exact ⟨g, r, e', m, h'⟩

theorem State.takeSource_keeps (s : State) (x : ClockSource) (hx : s.changes.source = some x) :
    ∃ g r e m, s.takeSource = { s with
      settings := { s.settings with general := { s.settings.general with source := x } }
      changes := { s.changes with source := none }
      clockUnit := { s.clockUnit with state := s.clockUnit.afterSetting x }
      stage := g, readers := r, events := e, marks := m } := by
  unfold State.takeSource
  simp only [hx]
  obtain ⟨e, h⟩ := State.applySource_keeps { s with changes := { s.changes with source := none } } x
  rw [h]
  obtain ⟨g, r, e', m, h'⟩ := State.markSource_keeps
    { s with
      settings := { s.settings with general := { s.settings.general with source := x } }
      changes := { s.changes with source := none }
      clockUnit := { s.clockUnit with state := s.clockUnit.afterSetting x }
      events := e } s.sourceInUse
  exact ⟨g, r, e', m, h'⟩

/-! ### A Sample Period -/

theorem State.acceptLine_keeps (s : State) (l : Line) :
    ∃ x r e m, s.acceptLine l = { s with proc := x, readers := r, events := e, marks := m } ∧
      x.clock = s.proc.clock ∧ x.periods = s.proc.periods ∧ x.session = s.proc.session ∧
      x.opening = s.proc.opening ∧ x.verify = s.proc.verify ∧ x.recording = s.proc.recording ∧
      (x.state = .closed ↔ s.proc.state = .closed) := by
  unfold State.acceptLine
  dsimp only
  generalize hu : s.setProc _ = u
  have hup : ∃ ls, u = { s with proc := { s.proc with lines := ls } } := ⟨_, hu.symm⟩
  obtain ⟨ls, rfl⟩ := hup
  clear hu
  have hreq : ∀ w who, ∃ x r e m, (State.request { s with proc := { s.proc with lines := ls } } w who).2 =
      { s with proc := x, readers := r, events := e, marks := m } ∧
      x.clock = s.proc.clock ∧ x.periods = s.proc.periods ∧ x.session = s.proc.session ∧
      x.opening = s.proc.opening ∧ x.verify = s.proc.verify ∧ x.recording = s.proc.recording ∧
      (x.state = .closed ↔ s.proc.state = .closed) := by
    intro w who
    obtain ⟨r, e, m, t, h | ⟨ho, h⟩⟩ :=
      State.request_keeps { s with proc := { s.proc with lines := ls } } w who
    · exact ⟨_, r, e, m, h, rfl, rfl, rfl, rfl, rfl, rfl, Iff.rfl⟩
    · refine ⟨_, r, e, m, h, rfl, rfl, rfl, rfl, rfl, rfl, ?_⟩
      have ho' : s.proc.state = .onRecord := ho
      simp [ho']
  have hsame : ∃ x r e m, ({ s with proc := { s.proc with lines := ls } } : State) =
      { s with proc := x, readers := r, events := e, marks := m } ∧
      x.clock = s.proc.clock ∧ x.periods = s.proc.periods ∧ x.session = s.proc.session ∧
      x.opening = s.proc.opening ∧ x.verify = s.proc.verify ∧ x.recording = s.proc.recording ∧
      (x.state = .closed ↔ s.proc.state = .closed) :=
    ⟨_, _, _, _, rfl, rfl, rfl, rfl, rfl, rfl, rfl, Iff.rfl⟩
  unfold State.lineChanged
  split
  · exact hreq _ _
  · exact hreq _ _
  · unfold State.privacyRise
    split
    · rename_i ho
      obtain ⟨r, e, m, h⟩ := State.enterSidebar_keeps { s with proc := { s.proc with lines := ls } } .bench
        (if (Proceedings.closePending { s.proc with lines := ls }) = true then s.proc.target else none)
      refine ⟨_, r, e, m, h, rfl, rfl, rfl, rfl, rfl, rfl, ?_⟩
      have ho' : s.proc.state = .onRecord := ho
      simp [ho']
    all_goals exact hsame
  · unfold State.privacyFall
    split
    · split
      · exact ⟨_, _, _, _, rfl, rfl, rfl, rfl, rfl, rfl, rfl, Iff.rfl⟩
      · exact hsame
    all_goals exact hsame
  · obtain ⟨r, e, m, h⟩ := State.requestMark_keeps { s with proc := { s.proc with lines := ls } } _
    exact ⟨_, r, e, m, h, rfl, rfl, rfl, rfl, rfl, rfl, Iff.rfl⟩
  all_goals exact hsame

theorem State.settleBench_keeps (s : State) :
    ∃ x r e m, s.settleBench = { s with proc := x, readers := r, events := e, marks := m } ∧
      x.clock = s.proc.clock ∧ x.periods = s.proc.periods ∧ x.session = s.proc.session ∧
      x.opening = s.proc.opening ∧ x.verify = s.proc.verify ∧ x.recording = s.proc.recording ∧
      (x.state = .closed ↔ s.proc.state = .closed) := by
  unfold State.settleBench
  generalize allLines = ls
  induction ls generalizing s with
  | nil => exact ⟨_, _, _, _, rfl, rfl, rfl, rfl, rfl, rfl, rfl, Iff.rfl⟩
  | cons l ls ih =>
    have hl : ∃ x r e m, s.settleLine l = { s with proc := x, readers := r, events := e, marks := m } ∧
        x.clock = s.proc.clock ∧ x.periods = s.proc.periods ∧ x.session = s.proc.session ∧
        x.opening = s.proc.opening ∧ x.verify = s.proc.verify ∧ x.recording = s.proc.recording ∧
        (x.state = .closed ↔ s.proc.state = .closed) := by
      unfold State.settleLine
      split
      · exact s.acceptLine_keeps l
      · exact ⟨_, _, _, _, rfl, rfl, rfl, rfl, rfl, rfl, rfl, Iff.rfl⟩
    obtain ⟨x, r, e, m, h, h1, h2, h3, h4, h5, h6, h7⟩ := hl
    obtain ⟨x', r', e', m', h', k1, k2, k3, k4, k5, k6, k7⟩ := ih (s.settleLine l)
    rw [h] at h' k1 k2 k3 k4 k5 k6 k7
    exact ⟨x', r', e', m', by rw [List.foldl_cons, h]; exact h', k1.trans h1, k2.trans h2, k3.trans h3,
      k4.trans h4, k5.trans h5, k6.trans h6, k7.trans h7⟩

/-- An event that may be set changes only the Event Flags. -/
theorem State.raiseBoth_ite (s : State) (c : Bool) (e : Event) :
    (if c = true then s.raiseBoth e else s) =
      { s with events := if c = true then (s.raiseBoth e).events else s.events } := by
  cases c <;> rfl

theorem State.trackPeriod_keeps (s : State) :
    ∃ b t e, s.trackPeriod = { s with inProgress := b, tracks := t, events := e } ∧
      (s.inProgress = none → b = none) := by
  unfold State.trackPeriod
  split
  · exact ⟨_, _, _, rfl, id⟩
  · rename_i b hb
    dsimp only
    rw [State.raiseBoth_ite]
    refine ⟨_, _, _, rfl, fun h => ?_⟩
    rw [hb] at h
    exact absurd h (by simp)

end Sys2Proof.Machine
end

