-- ==== Sys2Proof/Laws/Crc.lean ====
section
/-! SUPPORT. The CRC-8 of R2 as a remainder of polynomials over two elements. -/

namespace Sys2Proof.Machine

open Polynomial

/-- The coefficient that a bit is. -/
noncomputable def bitPoly (b : Bool) : Polynomial (ZMod 2) := if b then 1 else 0

/-- The polynomial of a message, its first bit the highest coefficient (R2). -/
noncomputable def messagePoly (bits : List Bool) : Polynomial (ZMod 2) :=
  bits.foldl (fun m b => m * X + bitPoly b) 0

/-- The polynomial of R2. -/
noncomputable def crcPoly : Polynomial (ZMod 2) := X ^ 8 + X ^ 2 + X + 1

/-- The bits of a byte, most significant first. -/
def byteBits (c : Byte) : List Bool := (List.range 8).map fun i => c.getLsbD (7 - i)

theorem crcPoly_monic : crcPoly.Monic := by unfold crcPoly; monicity!

theorem crcPoly_degree : crcPoly.degree = 8 := by unfold crcPoly; compute_degree!

theorem two_eq_zero : (2 : Polynomial (ZMod 2)) = 0 := by
  rw [← map_ofNat C 2, show (OfNat.ofNat 2 : ZMod 2) = 0 from by decide, map_zero]

theorem bitPoly_xor (a b : Bool) : bitPoly (a ^^ b) = bitPoly a + bitPoly b := by
  cases a <;> cases b <;> simp [bitPoly]
  rw [one_add_one_eq_two, two_eq_zero]

theorem messagePoly_byteBits (c : Byte) : messagePoly (byteBits c) =
    bitPoly (c.getLsbD 7) * X ^ 7 + bitPoly (c.getLsbD 6) * X ^ 6 + bitPoly (c.getLsbD 5) * X ^ 5 +
      bitPoly (c.getLsbD 4) * X ^ 4 + bitPoly (c.getLsbD 3) * X ^ 3 + bitPoly (c.getLsbD 2) * X ^ 2 +
      bitPoly (c.getLsbD 1) * X + bitPoly (c.getLsbD 0) := by
  simp only [messagePoly, byteBits, List.range_succ, List.range_zero, List.nil_append,
    List.map_cons, List.map_nil, List.cons_append, List.foldl_cons, List.foldl_nil]
  ring

/-- The polynomial of a byte has no degree above 7. -/
theorem messagePoly_byteBits_degree (c : Byte) : (messagePoly (byteBits c)).degree < 8 := by
  have h : ∀ b, bitPoly b = C (if b then 1 else 0) := fun b => by cases b <;> simp [bitPoly]
  rw [messagePoly_byteBits]
  simp only [h]
  refine lt_of_le_of_lt (b := 7) ?_ (by decide)
  compute_degree

/-- Bit `i` of the CRC after one more bit (R2). -/
theorem crcStep_bit (c : Byte) (b : Bool) : ∀ i < 8, (crcStep c b).getLsbD i =
    ((decide (i ≠ 0) && c.getLsbD (i - 1)) ^^ (decide (i ≤ 2) && (c.getLsbD 7 ^^ b))) := by
  intro i hi
  unfold crcStep
  split
  · rename_i h
    rw [h]
    interval_cases i <;> simp
  · rename_i h
    rw [Bool.not_eq_true] at h
    rw [h]
    interval_cases i <;> simp

/-- One more bit of the message (R2). -/
theorem crcStep_poly (c : Byte) (b : Bool) : messagePoly (byteBits (crcStep c b)) =
    messagePoly (byteBits c) * X + bitPoly b * X ^ 8 + (bitPoly (c.getLsbD 7) + bitPoly b) * crcPoly := by
  rw [messagePoly_byteBits, messagePoly_byteBits]
  simp only [crcStep_bit c b _ (by decide : (0 : Nat) < 8), crcStep_bit c b _ (by decide : 1 < 8),
    crcStep_bit c b _ (by decide : 2 < 8), crcStep_bit c b _ (by decide : 3 < 8),
    crcStep_bit c b _ (by decide : 4 < 8), crcStep_bit c b _ (by decide : 5 < 8),
    crcStep_bit c b _ (by decide : 6 < 8), crcStep_bit c b _ (by decide : 7 < 8), bitPoly_xor]
  norm_num [bitPoly_xor, crcPoly]
  have z : bitPoly false = 0 := rfl
  simp only [← BitVec.getLsbD_eq_getElem, z]
  linear_combination (-(bitPoly (c.getLsbD 7) + bitPoly b) * X ^ 8) * two_eq_zero

/-- The CRC-8 of a message is the remainder of its polynomial times x^8 (R2). -/
theorem crc8_remainder (message : List Bool) : messagePoly (byteBits (crc8 message)) =
    (messagePoly message * X ^ 8) %ₘ crcPoly := by
  have h : ∃ q, messagePoly (byteBits (crc8 message)) + crcPoly * q = messagePoly message * X ^ 8 := by
    induction message using List.reverseRecOn with
    | nil =>
      refine ⟨0, ?_⟩
      have z : bitPoly false = 0 := rfl
      have m : messagePoly [] = 0 := rfl
      simp [messagePoly_byteBits, crc8, z, m]
    | append_singleton m b ih =>
      obtain ⟨q, hq⟩ := ih
      refine ⟨q * X - (bitPoly ((crc8 m).getLsbD 7) + bitPoly b), ?_⟩
      have e : crc8 (m ++ [b]) = crcStep (crc8 m) b := by simp [crc8]
      have p : messagePoly (m ++ [b]) = messagePoly m * X + bitPoly b := by simp [messagePoly]
      rw [e, p, crcStep_poly]
      linear_combination X * hq
  obtain ⟨q, hq⟩ := h
  exact ((Polynomial.div_modByMonic_unique q _ crcPoly_monic
    ⟨hq, by rw [crcPoly_degree]; exact messagePoly_byteBits_degree _⟩).2).symm

end Sys2Proof.Machine
end

