-- ==== Sys2Proof/Laws/PerInstr.lean ====
section
/-! SUPPORT. A property of every command as syntax, one lemma per constructor: a row has a code of Table
9.2 exactly when it is a command of a port (the two chip-select rises have none), and no code lies below B0H. -/

namespace Sys2Proof.Laws.Coding

open Sys2Proof Sys2Proof.Machine

/-- A command has a code exactly when it is a port command, and its code is B0H or above (Table 9.2). -/
def Statement (i : Instr) : Prop :=
  ((codeOf i).isSome ↔ (portCommand i).isSome) ∧ ∀ c, codeOf i = some c → 0xB0 ≤ c.toNat

/-- A command without a code that is no port command. -/
theorem of_none {i : Instr} (h : codeOf i = none) (hp : portCommand i = none) : Statement i :=
  ⟨by simp [h, hp], fun c hc => by simp [h] at hc⟩

/-- A port command with its code. -/
theorem of_some {i : Instr} {c : Byte} (h : codeOf i = some c) (hp : (portCommand i).isSome)
    (hc : 0xB0 ≤ c.toNat) : Statement i :=
  ⟨by simp [h, hp], fun d hd => by rw [h] at hd; cases hd; exact hc⟩

theorem powerOn : Statement .powerOn := of_none rfl rfl
theorem settingsLoadComplete : Statement .settingsLoadComplete := of_none rfl rfl
theorem powerLoss (writing : ImageHalf) : Statement (.powerLoss writing) := of_none rfl rfl
theorem resetAssert : Statement .resetAssert := of_none rfl rfl
theorem resetRelease : Statement .resetRelease := of_none rfl rfl
theorem samplePeriod (houseEdge : Bool) (levels : BenchLevels) : Statement (.samplePeriod houseEdge levels) := of_none rfl rfl
theorem linkFrame (link : Fin 8) (input : LinkInput) : Statement (.linkFrame link input) := of_none rfl rfl
theorem linkLock (link : Fin 8) (input : LinkInput) : Statement (.linkLock link input) := of_none rfl rfl
theorem linkSeekTimeout (link : Fin 8) (input : LinkInput) : Statement (.linkSeekTimeout link input) := of_none rfl rfl
theorem linkRelock (link : Fin 8) (input : LinkInput) : Statement (.linkRelock link input) := of_none rfl rfl
theorem linkDown (link : Fin 8) (input : LinkInput) : Statement (.linkDown link input) := of_none rfl rfl
theorem houseClockLoss : Statement .houseClockLoss := of_none rfl rfl
theorem houseClockReturn : Statement .houseClockReturn := of_none rfl rfl
theorem benchLineAccept (line : Line) : Statement (.benchLineAccept line) := of_none rfl rfl
theorem blockBoundary (floorAfter : Nat) : Statement (.blockBoundary floorAfter) := of_none rfl rfl
theorem storeGapBlock : Statement .storeGapBlock := of_none rfl rfl
theorem pendingTargetTake : Statement .pendingTargetTake := of_none rfl rfl
theorem sessionClose : Statement .sessionClose := of_none rfl rfl
theorem sessionLengthLimit : Statement .sessionLengthLimit := of_none rfl rfl
theorem planActivate : Statement .planActivate := of_none rfl rfl
theorem pendingGainApply (order : List (Fin 32)) : Statement (.pendingGainApply order) := of_none rfl rfl
theorem pendingSettingApply : Statement .pendingSettingApply := of_none rfl rfl
theorem clockSourceApply : Statement .clockSourceApply := of_none rfl rfl
theorem marksLostStore : Statement .marksLostStore := of_none rfl rfl
theorem storeCompletion : Statement .storeCompletion := of_none rfl rfl
theorem zeroByteFrame (port : Port) : Statement (.zeroByteFrame port) := of_none rfl rfl
theorem frameDuringLoad (port : Port) (frame : BareFrame) : Statement (.frameDuringLoad port frame) := of_none rfl rfl
theorem shortFrame (port : Port) (frame : BareFrame) : Statement (.shortFrame port frame) := of_none rfl rfl
theorem unknownCommand (port : Port) (code : Byte) (frame : Frame) : Statement (.unknownCommand port code frame) := of_none rfl rfl
theorem status (port : Port) (frame : Frame) : Statement (.status port frame) := of_some rfl rfl (by decide)
theorem readEvents (port : Port) (frame : Frame) : Statement (.readEvents port frame) := of_some rfl rfl (by decide)
theorem ackEvents (port : Port) (frame : Frame) : Statement (.ackEvents port frame) := of_some rfl rfl (by decide)
theorem setMask (port : Port) (frame : Frame) : Statement (.setMask port frame) := of_some rfl rfl (by decide)
theorem portReset (port : Port) (frame : Frame) : Statement (.portReset port frame) := of_some rfl rfl (by decide)
theorem attach (port : Port) (frame : Frame) : Statement (.attach port frame) := of_some rfl rfl (by decide)
theorem detach (port : Port) (frame : Frame) : Statement (.detach port frame) := of_some rfl rfl (by decide)
theorem readBlock (port : Port) (frame : Frame) : Statement (.readBlock port frame) := of_some rfl rfl (by decide)
theorem readBlockEnd (port : Port) (edges : Nat) : Statement (.readBlockEnd port edges) := of_none rfl rfl
theorem release (port : Port) (frame : Frame) : Statement (.release port frame) := of_some rfl rfl (by decide)
theorem seek (port : Port) (frame : Frame) : Statement (.seek port frame) := of_some rfl rfl (by decide)
theorem setAvailLevel (port : Port) (frame : Frame) : Statement (.setAvailLevel port frame) := of_some rfl rfl (by decide)
theorem setLagLevel (port : Port) (frame : Frame) : Statement (.setLagLevel port frame) := of_some rfl rfl (by decide)
theorem placeHold (port : Port) (frame : Frame) : Statement (.placeHold port frame) := of_some rfl rfl (by decide)
theorem dropHold (port : Port) (frame : Frame) : Statement (.dropHold port frame) := of_some rfl rfl (by decide)
theorem readHolds (port : Port) (frame : Frame) : Statement (.readHolds port frame) := of_some rfl rfl (by decide)
theorem readMarks (port : Port) (frame : Frame) : Statement (.readMarks port frame) := of_some rfl rfl (by decide)
theorem readMarksEnd (port : Port) (edges : Nat) : Statement (.readMarksEnd port edges) := of_none rfl rfl
theorem addNote (port : Port) (frame : Frame) : Statement (.addNote port frame) := of_some rfl rfl (by decide)
theorem openSession (port : Port) (frame : Frame) : Statement (.openSession port frame) := of_some rfl rfl (by decide)
theorem closeSession (port : Port) (frame : Frame) : Statement (.closeSession port frame) := of_some rfl rfl (by decide)
theorem setState (port : Port) (frame : Frame) : Statement (.setState port frame) := of_some rfl rfl (by decide)
theorem planClear (port : Port) (frame : Frame) : Statement (.planClear port frame) := of_some rfl rfl (by decide)
theorem planSetGroup (port : Port) (frame : Frame) : Statement (.planSetGroup port frame) := of_some rfl rfl (by decide)
theorem planSetFormat (port : Port) (frame : Frame) : Statement (.planSetFormat port frame) := of_some rfl rfl (by decide)
theorem readPlan (port : Port) (frame : Frame) : Statement (.readPlan port frame) := of_some rfl rfl (by decide)
theorem activatePlan (port : Port) (frame : Frame) : Statement (.activatePlan port frame) := of_some rfl rfl (by decide)
theorem setGain (port : Port) (frame : Frame) : Statement (.setGain port frame) := of_some rfl rfl (by decide)
theorem readTracks (port : Port) (frame : Frame) : Statement (.readTracks port frame) := of_some rfl rfl (by decide)
theorem readLinks (port : Port) (frame : Frame) : Statement (.readLinks port frame) := of_some rfl rfl (by decide)
theorem readSetting (port : Port) (frame : Frame) : Statement (.readSetting port frame) := of_some rfl rfl (by decide)
theorem writeSetting (port : Port) (frame : Frame) : Statement (.writeSetting port frame) := of_some rfl rfl (by decide)
theorem enableStore (port : Port) (frame : Frame) : Statement (.enableStore port frame) := of_some rfl rfl (by decide)
theorem disableStore (port : Port) (frame : Frame) : Statement (.disableStore port frame) := of_some rfl rfl (by decide)
theorem storeSettings (port : Port) (frame : Frame) : Statement (.storeSettings port frame) := of_some rfl rfl (by decide)

end Sys2Proof.Laws.Coding
end

