-- ==== Sys2Proof/Laws/Periods.lean ====
section
/-! SUPPORT. What the end and the start of a Sample Period do to the links, the Bench Lines and the house counts,
and what a Mark of a boundary does: the proofs about SAMPLE_PERIOD and the takings of a boundary start here. -/

namespace Sys2Proof.Machine

/-! ### The house counts (R17) -/

@[simp] theorem ClockUnit.examine_state (u : ClockUnit) : u.examine.state = u.state := by
  unfold ClockUnit.examine
  split <;> rfl

@[simp] theorem ClockUnit.examine_edge (u : ClockUnit) : u.examine.edge = none := by
  unfold ClockUnit.examine
  split <;> simp_all

/-- A period that has been counted is not counted again. -/
@[simp] theorem ClockUnit.examine_examine (u : ClockUnit) : u.examine.examine = u.examine := by
  have h := u.examine_edge
  generalize u.examine = v at h
  unfold ClockUnit.examine
  simp [h]

/-! ### The links (R1, R3) -/

/-- What the end of a period leaves of a link: one that was not heard has a missing frame. -/
def State.settledLink (s : State) (n : Fin 8) : Link :=
  if s.links[n].heard then s.links[n] else s.received n .absent

theorem State.settledLink_congr {s t : State} (i : Fin 8) (hl : t.links[i] = s.links[i])
    (hs : t.settings = s.settings) (hp : t.proc = s.proc) : t.settledLink i = s.settledLink i := by
  unfold State.settledLink State.received State.verifyClock State.sessionOpen
  rw [hl, hs, hp]

theorem State.missLink_eq (s : State) (n : Fin 8) :
    ∃ r e m, s.missLink n = { s with
      links := s.links.set n (s.settledLink n), readers := r, events := e, marks := m } := by
  unfold State.missLink State.settledLink
  split
  · exact ⟨s.readers, s.events, s.marks, by simp⟩
  · exact s.receiveLink_keeps n .absent

theorem State.missLinks_eq (s : State) :
    ∃ l r e m, s.missLinks = { s with links := l, readers := r, events := e, marks := m } ∧
      ∀ i : Fin 8, l[i] = s.settledLink i := by
  unfold State.missLinks
  suffices h : ∀ (ns : List (Fin 8)), ns.Nodup → ∀ s : State,
      ∃ l r e m, ns.foldl State.missLink s = { s with links := l, readers := r, events := e, marks := m } ∧
        ∀ i : Fin 8, l[i] = if i ∈ ns then s.settledLink i else s.links[i] by
    obtain ⟨l, r, e, m, h1, h2⟩ := h (List.finRange 8) (List.nodup_finRange 8) s
    exact ⟨l, r, e, m, h1, fun i => by simpa using h2 i⟩
  intro ns hn
  induction ns with
  | nil => exact fun s => ⟨_, _, _, _, rfl, by simp⟩
  | cons n ns ih =>
    intro s
    obtain ⟨hn1, hn2⟩ := List.nodup_cons.1 hn
    obtain ⟨r, e, m, h⟩ := s.missLink_eq n
    obtain ⟨l', r', e', m', h', hl⟩ := ih hn2 (s.missLink n)
    rw [h] at h' hl
    refine ⟨l', r', e', m', by rw [List.foldl_cons, h]; exact h', fun i => ?_⟩
    have hset : ∀ i : Fin 8, (s.links.set n (s.settledLink n))[i] =
        if i = n then s.settledLink n else s.links[i] := fun i => by
      by_cases hi : i = n
      · subst hi; simp
      · have : (n : Nat) ≠ i := fun h => hi (Fin.ext h.symm)
        simp [hi, this]
    rw [hl i]
    by_cases hin : i = n
    · subst hin
      simp [hn1]
    · have hs := State.settledLink_congr (s := s) (t := { s with
        links := s.links.set n (s.settledLink n), readers := r, events := e, marks := m }) i
        ((hset i).trans (if_neg hin)) rfl rfl
      simp [hin, hs, hset]

/-! ### The Bench Lines (R95) -/

/-- What the end of a period leaves of a Bench Line: a change that has stood for 960 periods is accepted. -/
def BenchLine.settled (x : BenchLine) : BenchLine :=
  if x.count = 960 then { x with level := !x.level, count := 0 } else x

theorem BenchLines.get_set (x : BenchLines) (l k : Line) (v : BenchLine) :
    (x.set l v).get k = if k = l then v else x.get k := by
  cases l <;> cases k <;> rfl

/-- What a line's accepted change does beyond the line touches no line. -/
theorem State.lineChanged_lines (s : State) (l : Line) (level : Bool) (x : BenchLine) :
    (s.lineChanged l level x).proc.lines = s.proc.lines := by
  have hm : ∀ (s : State) q, (s.requestMark q).proc = s.proc := fun s q => by
    obtain ⟨r, e, m, h⟩ := s.requestMark_keeps q
    rw [h]
  have hreq : ∀ w who, (s.request w who).2.proc.lines = s.proc.lines := fun w who => by
    obtain ⟨r, e, m, t, h | ⟨_, h⟩⟩ := s.request_keeps w who <;> rw [h]
  unfold State.lineChanged
  split <;> try exact hreq _ _
  · unfold State.privacyRise
    split
    · obtain ⟨r, e, m, h⟩ := s.enterSidebar_keeps .bench
        (if s.proc.closePending = true then s.proc.target else none)
      rw [h]
    all_goals rfl
  · unfold State.privacyFall
    split <;> [split <;> rfl; rfl; rfl; rfl]
  · exact congrArg Proceedings.lines (hm _ _)
  all_goals rfl

theorem State.settleLine_lines (s : State) (l k : Line) :
    (s.settleLine l).proc.lines.get k =
      if k = l then (s.proc.lines.get k).settled else s.proc.lines.get k := by
  unfold State.settleLine State.acceptDue BenchLine.settled
  by_cases hd : (s.proc.lines.get l).count = 960
  · simp only [hd, decide_true, if_true]
    unfold State.acceptLine
    rw [State.lineChanged_lines]
    show ((s.proc.lines.set l _).get k) = _
    rw [BenchLines.get_set]
    by_cases hk : k = l
    · subst hk; simp [hd]
    · simp [hk]
  · by_cases hk : k = l
    · subst hk; simp [hd]
    · simp [hd, hk]

theorem State.settleBench_lines (s : State) (k : Line) :
    s.settleBench.proc.lines.get k = (s.proc.lines.get k).settled := by
  suffices h : ∀ (ls : List Line), ls.Nodup → ∀ s : State,
      (ls.foldl State.settleLine s).proc.lines.get k =
        if k ∈ ls then (s.proc.lines.get k).settled else s.proc.lines.get k by
    rw [State.settleBench, h allLines (by decide)]
    cases k <;> simp [allLines]
  intro ls hn
  induction ls with
  | nil => simp
  | cons l ls ih =>
    intro s
    obtain ⟨h1, h2⟩ := List.nodup_cons.1 hn
    rw [List.foldl_cons, ih h2, State.settleLine_lines]
    by_cases hk : k = l
    · subst hk; simp [h1]
    · simp [hk]

/-- Every Bench Line is sampled at its level in the new period (R95). -/
theorem State.sampleBench_lines (s : State) (levels : BenchLevels) (l : Line) :
    (s.sampleBench levels).proc.lines.get l = (s.proc.lines.get l).sample
      (match l with
        | .onRec => levels.onRec
        | .offRec => levels.offRec
        | .privacy => levels.privacy
        | .mark => levels.mark
        | .key => levels.key) s.proc.clock (!s.sessionOpen) := by
  cases l <;> rfl

/-! ### The end of a Sample Period -/

/-- The house clock unit after the end of a period, by its counts then: a loss, and in CLOSED a return (R18, R19). -/
def ClockUnit.settled (u : ClockUnit) (closed : Bool) : ClockUnit :=
  let v := if u.state = .house ∧ u.edgeless = 3 then { u with state := .fallback } else u
  if closed ∧ v.state = .fallback ∧ v.housePresent = 48000 then { v with state := .house } else v

theorem State.settleLoss_keeps (s : State) :
    ∃ r e m, s.settleLoss = { s with
      clockUnit := if s.clockUnit.state = .house ∧ s.clockUnit.edgeless = 3
        then { s.clockUnit with state := .fallback } else s.clockUnit
      readers := r, events := e, marks := m } := by
  unfold State.settleLoss State.lossDue
  split
  · rename_i h
    obtain ⟨r, e, m, h'⟩ := s.loseHouse_keeps
    exact ⟨r, e, m, by rw [h', if_pos (by simpa using h)]⟩
  · rename_i h
    exact ⟨s.readers, s.events, s.marks, by rw [if_neg (by simpa using h)]⟩

theorem State.settleReturn_keeps (s : State) :
    ∃ e, s.settleReturn = { s with
      clockUnit := if s.sessionOpen = false ∧ s.clockUnit.state = .fallback ∧
        s.clockUnit.housePresent = 48000 then { s.clockUnit with state := .house } else s.clockUnit
      events := e } := by
  unfold State.settleReturn State.returnDue State.houseReturns
  split
  · rename_i h
    obtain ⟨e, h'⟩ := s.setClockState_keeps .house
    exact ⟨e, by rw [h', if_pos (by simpa using h)]⟩
  · rename_i h
    exact ⟨s.events, by rw [if_neg (by simpa using h)]⟩

theorem State.countPeriod_keeps (s : State) :
    ∃ b t e, s.countPeriod = { s with
      inProgress := b, tracks := t, events := e
      proc := { s.proc with clock := if s.clockRuns then s.proc.clock + 1 else s.proc.clock } } := by
  unfold State.countPeriod
  split
  · obtain ⟨b, t, e, h, _⟩ := s.trackPeriod_keeps
    exact ⟨b, t, e, by dsimp only; rw [h]; rfl⟩
  · exact ⟨_, _, _, rfl⟩

/-- All that the end of a Sample Period does, but for its Marks and events (R1, R3, R17 to R19, R79, R95). -/
theorem State.endPeriod_keeps (s : State) :
    ∃ l x b t r e m, s.endPeriod = { s with
        inPeriod := false, links := l, proc := x, inProgress := b, tracks := t
        clockUnit := s.clockUnit.examine.settled (!s.sessionOpen)
        readers := r, events := e, marks := m } ∧
      (∀ i : Fin 8, l[i] = { s.settledLink i with heard := false }) ∧
      (∀ k : Line, x.lines.get k = (s.proc.lines.get k).settled) ∧
      x.clock = (if s.clockRuns then s.proc.clock + 1 else s.proc.clock) ∧ x.periods = s.proc.periods ∧
      x.session = s.proc.session ∧ x.opening = s.proc.opening ∧ x.verify = s.proc.verify ∧
      x.recording = s.proc.recording ∧ (x.state = .closed ↔ s.proc.state = .closed) := by
  obtain ⟨l, r, e, m, h1, hl⟩ := s.missLinks_eq
  have hb := s.missLinks.settleBench_lines
  obtain ⟨x, r2, e2, m2, h2, k1, k2, k3, k4, k5, k6, k7⟩ := s.missLinks.settleBench_keeps
  rw [h2] at hb
  rw [h1] at h2 hb k1 k2 k3 k4 k5 k6 k7
  have ho : decide (x.state = .closed) = decide (s.proc.state = .closed) := decide_eq_decide.2 k7
  have hso : ∀ y : Proceedings, decide (y.state = .closed) = decide (s.proc.state = .closed) →
      ∀ u : State, u.proc = y → u.sessionOpen = s.sessionOpen := fun y hy u hu => by
    unfold State.sessionOpen
    rw [hu]
    revert hy
    cases y.state <;> cases s.proc.state <;> simp
  unfold State.endPeriod
  dsimp only
  rw [h1, h2]
  dsimp only
  unfold State.examineHouse
  dsimp only
  generalize hu : State.settleLoss _ = u
  obtain ⟨r3, e3, m3, h3⟩ := State.settleLoss_keeps { s with
    links := l, proc := x, clockUnit := s.clockUnit.examine, readers := r2, events := e2, marks := m2 }
  have h3' := hu.symm.trans h3
  obtain ⟨e4, h4⟩ := u.settleReturn_keeps
  obtain ⟨b, t, e5, h5⟩ := u.settleReturn.countPeriod_keeps
  have hp : u.settleReturn.proc = x := by rw [h4, h3']
  have hr : u.settleReturn.clockRuns = s.clockRuns := by
    unfold State.clockRuns
    rw [hso x ho _ hp, hp, k4]
  have hu2 : u.sessionOpen = s.sessionOpen := hso x ho _ (by rw [h3'])
  rw [h5, hr, hp]
  refine ⟨Vector.ofFn fun i => { l[i] with heard := false },
    { x with clock := if s.clockRuns then x.clock + 1 else x.clock }, b, t, r3, e5, m3, ?_, fun i => ?_, hb,
    ?_, k2, k3, k4, k5, k6, k7⟩
  · rw [h4, hu2, h3']
    dsimp only
    unfold ClockUnit.settled
    simp only [Bool.not_eq_true']
  · rw [← hl i]
    simp
  · simp only [k1]

/-! ### The Marks of a boundary (R73, R153) -/

theorem State.floorNext_keeps (s : State) :
    ∃ g r e m, s.floorNext = { s with stage := g, readers := r, events := e, marks := m } := by
  unfold State.floorNext
  split
  · rename_i next _ holder restricted _
    split
    · obtain ⟨r, e, m, h⟩ := State.insertMark_keeps { s with stage := .turned next none }
        (s.floorRequest holder restricted)
      exact ⟨_, r, e, m, h⟩
    · exact ⟨_, _, _, _, rfl⟩
  all_goals exact ⟨_, _, _, _, rfl⟩

/-- A Mark of the boundary in an open Session, with the FLOOR Mark that may follow it. -/
theorem State.boundaryMark_open (s : State) (q : MarkRequest) {next : ProceedingsState}
    {wait : Option (Nat × Option (Fin 32) × Bool)} (h : s.stage = .turned next wait)
    (ho : s.sessionOpen = true) : s.boundaryMark q = (s.insertMark q).floorNext := by
  obtain ⟨r, e, m, hk⟩ := s.insertMark_keeps q
  unfold State.boundaryMark State.floorNext
  rw [State.requestMark_open s q ho]
  dsimp only
  rw [show (s.insertMark q).stage = .turned next wait by rw [hk]; exact h]
  rcases wait with _ | ⟨k, holder, restricted⟩
  · rfl
  · dsimp only
    split
    · refine (State.requestMark_open _ _ ?_).trans ?_
      · rw [hk]; exact ho
      · cases holder <;> rfl
    · rfl

/-- In CLOSED the boundary asks for no Mark (R153). -/
theorem State.boundaryMark_closed (s : State) (q : MarkRequest) {next : ProceedingsState}
    (h : s.stage = .turned next none) (ho : s.sessionOpen = false) : s.boundaryMark q = s := by
  simp [State.boundaryMark, State.requestMark_closed s q ho, h]

end Sys2Proof.Machine
end

