-- ==== Sys2Proof/Laws/Retention.lean ====
section
/-! SUPPORT. What retention keeps, in the terms of the claims: the proofs about Slots and Mark List entries start
here. -/

namespace Sys2Proof.Machine

/-- A Reader that retains is an attached one with a BINDING snapshot (R105, R157). -/
theorem Reader.binds_iff (x : Reader) :
    x.binds = true ↔ x.state ≠ .detached ∧ x.retention = some .binding := by
  unfold Reader.binds Reader.attached
  cases x.state <;> simp

/-- Some entry of the Hold Table is a BINDING Hold over `q` (R105). -/
theorem any_holdKeeps (holds : Vector (Option Hold) 8) (q : Nat) :
    holds.toList.any (holdKeeps q) = true ↔
      ∃ (e : Fin 8) (h : Hold), holds[e] = some h ∧ h.cls = .binding ∧ h.first ≤ q ∧ q ≤ h.last := by
  simp only [List.any_eq_true, Vector.mem_toList_iff, Vector.mem_iff_getElem]
  constructor
  · rintro ⟨x, ⟨i, hi, rfl⟩, hk⟩
    cases hx : holds[i] with
    | none => simp [holdKeeps, hx] at hk
    | some h => exact ⟨⟨i, hi⟩, h, hx, by simpa [holdKeeps, hx] using hk⟩
  · rintro ⟨⟨i, hi⟩, h, he, hk⟩
    exact ⟨_, ⟨i, hi, rfl⟩, by
      rw [show holds[i] = some h from he]
      simpa [holdKeeps] using hk⟩

theorem State.permits_iff (s : State) (q : Nat) : s.permits q = true ↔ ¬s.slotKept q := by
  have hr : ∀ x : Reader, x.keeps q = true ↔
      x.state ≠ .detached ∧ x.retention = some .binding ∧ x.release ≤ q := fun x => by
    simp [Reader.keeps, Reader.binds_iff, and_assoc]
  unfold State.permits State.slotKept
  simp only [Bool.and_eq_true, Bool.not_eq_true', ← Bool.not_eq_true, any_holdKeeps, hr, not_or]
  constructor
  · rintro ⟨⟨a, b⟩, c⟩
    exact ⟨fun ⟨p, hp⟩ => by cases p <;> [exact a hp; exact b hp], c⟩
  · rintro ⟨a, c⟩
    exact ⟨⟨fun h => a ⟨.a, h⟩, fun h => a ⟨.b, h⟩⟩, c⟩

theorem State.marksBound_iff (s : State) (serial : Nat) :
    s.marksBound serial = true ↔ s.markKept serial := by
  have hr : ∀ x : Reader, (x.binds && decide (x.mark ≤ serial)) = true ↔
      x.state ≠ .detached ∧ x.retention = some .binding ∧ x.mark ≤ serial := fun x => by
    simp [Reader.binds_iff, and_assoc]
  unfold State.marksBound State.markKept
  rw [Bool.or_eq_true, hr, hr]
  constructor
  · rintro (h | h)
    exacts [⟨.a, h⟩, ⟨.b, h⟩]
  · rintro ⟨p, h⟩
    cases p
    exacts [.inl h, .inr h]

end Sys2Proof.Machine
end

