-- ==== Sys2Proof/Laws/Wire.lean ====
section
/-! SUPPORT. What goes out on the wire, byte by byte and bit by bit, and fields of a byte list: the proofs about
responses and about what a Frame shifts out start here. -/

namespace Sys2Proof.Machine

/-! ### Byte lists (R198) -/

@[simp] theorem le_length (n v : Nat) : (le n v).length = n := by
  induction n generalizing v with
  | zero => rfl
  | succ n ih => simp [le, ih]

/-- Reading back a number sent least significant byte first gives its low bytes (R198). -/
theorem leNat_le (n v : Nat) : leNat (le n v) = v % 256 ^ n := by
  induction n generalizing v with
  | zero => simp [le, leNat, Nat.mod_one]
  | succ n ih =>
    rw [le, leNat, ih, Nat.pow_succ', Nat.mod_mul, BitVec.toNat_ofNat]

@[simp] theorem padTo_length (n : Nat) (xs : List Byte) : (padTo n xs).length = n := by
  simp [padTo]; omega

/-- Byte `i` of a list cut or filled with 00H. -/
theorem padTo_getElem? (n : Nat) (xs : List Byte) (i : Nat) (h : i < n) :
    (padTo n xs)[i]? = some (xs.getD i 0) := by
  unfold padTo
  by_cases hi : i < xs.length
  · rw [List.getElem?_append_left (by simp; omega)]
    simp [h, hi]
  · rw [List.getElem?_append_right (by simp; omega)]
    simp only [Nat.not_lt] at hi
    simp only [List.length_take, List.getElem?_replicate, List.getD_eq_getElem?_getD,
      List.getElem?_eq_none hi, Option.getD_none]
    rw [if_pos (by omega)]

/-- A field that lies past the first part of a response. -/
theorem fieldAt_append_right (xs ys : List Byte) (i n : Nat) (h : xs.length ≤ i) :
    fieldAt (xs ++ ys) i n = fieldAt ys (i - xs.length) n := by
  simp [fieldAt, List.drop_append, List.drop_eq_nil_of_le h]

/-- A field that a response begins with. -/
theorem fieldAt_le (n v : Nat) (ys : List Byte) : fieldAt (le n v ++ ys) 0 n = v % 256 ^ n := by
  simp [fieldAt, leNat_le]

/-! ### What goes out (R167 to R169) -/

theorem paramOut_length (w : LaneWidth) (n : Nat) : (paramOut w n).length = n := by
  cases w <;> simp [paramOut, zeros]

/-- Byte `i` of a read command's reply. -/
theorem readOut_getElem? (w : LaneWidth) (n : Nat) (data : List Byte) (total i : Nat) (hn : n ≤ total)
    (h : i < total) : (readOut w n data total)[i]? = some (repliedByte w n data i) := by
  unfold readOut repliedByte
  have hl := paramOut_length w n
  by_cases hi : i < n
  · rw [List.getElem?_append_left (by omega)]
    cases w <;> simp [paramOut, zeros, hi]
  · rw [List.getElem?_append_right (by omega), hl, List.getElem?_map, padTo_getElem? _ _ _ (by omega)]
    simp [hi]

/-- The bits of a part byte of 00H. -/
theorem leadingBits_zero (n : Nat) : leadingBits n (some 0) = List.replicate n (some false) := by
  apply List.ext_getElem <;> simp [leadingBits]

/-- A Frame answered with 00H after the Result byte. -/
theorem State.reply_zeros (s : State) (p : Port) (f : Frame) :
    s.reply p f zeros =
      s.setOut p (s.resultOut p ++ zeros (f.edges / (s.timingOf p f).lanes.edgesPerByte))
        (List.replicate (f.edges % (s.timingOf p f).lanes.edgesPerByte * (s.timingOf p f).lanes.bitsPerEdge)
          (some false)) := by
  simp [State.reply, State.send, wireOut, State.withResult, wholeBytes, partLength, State.resultOut,
    ← leadingBits_zero, zeros]

end Sys2Proof.Machine
end

