-- ==== Sys2Proof/WellFormed.lean ====
section
/-! DEFINITION. Which operands a command can carry: the bounds that its row's own words set. -/

namespace Sys2Proof

/-- A link brings at most the 116 bits of a Link Frame in a Sample Period (R197). -/
def LinkInput.wellFormed : LinkInput → Bool
  | .absent => true
  | .started bits => decide (bits.length ≤ 116)

/-- RESET is asserted in a Frame within its `edges` rising edges (R175). -/
def AtReset.within (edges : Nat) : AtReset → Bool
  | .steady => true
  | .asserted k => decide (k ≤ edges)
  | .released => true

/-- RESET meets a Frame within its rising edges, those of the command byte counted (R167). -/
def Frame.wellFormed (f : Frame) : Bool := f.reset.within (f.lanes.length + f.tail + 8)

/-- Whether the operands of a command are ones its row allows: a Link Frame of at most 116 bits
(R197), a Frame during the load with an edge (R171 step 1 comes first), a short Frame of one to seven
edges (R171 step 3), an unknown code outside Table 9.2 (R171 step 4), a RESET asserted within the Frame it
meets (R175), and an order of LEVEL Marks that names no Track number twice (R55: one LEVEL Mark for each). -/
def Instr.wellFormed : Instr → Bool
  | .linkFrame _ x => x.wellFormed
  | .linkLock _ x => x.wellFormed
  | .linkSeekTimeout _ x => x.wellFormed
  | .linkRelock _ x => x.wellFormed
  | .linkDown _ x => x.wellFormed
  | .pendingGainApply order => decide order.Nodup
  | .frameDuringLoad _ f => decide (1 ≤ f.edges) && f.reset.within f.edges
  | .shortFrame _ f => decide (1 ≤ f.edges ∧ f.edges ≤ 7) && f.reset.within f.edges
  | .unknownCommand p code f => (commandOf p f code).isNone && f.wellFormed
  | .powerOn | .settingsLoadComplete | .powerLoss _ | .resetAssert | .resetRelease => true
  | .samplePeriod _ _ | .houseClockLoss | .houseClockReturn | .benchLineAccept _ => true
  | .blockBoundary _ | .storeGapBlock | .pendingTargetTake | .sessionClose => true
  | .sessionLengthLimit | .planActivate | .pendingSettingApply | .clockSourceApply => true
  | .marksLostStore | .storeCompletion | .zeroByteFrame _ => true
  | .readBlockEnd _ _ | .readMarksEnd _ _ => true
  | .status _ f | .readEvents _ f | .ackEvents _ f | .setMask _ f | .portReset _ f | .attach _ f |
    .detach _ f | .readBlock _ f | .release _ f | .seek _ f | .setAvailLevel _ f | .setLagLevel _ f |
    .placeHold _ f | .dropHold _ f | .readHolds _ f | .readMarks _ f | .addNote _ f | .openSession _ f |
    .closeSession _ f | .setState _ f | .planClear _ f | .planSetGroup _ f | .planSetFormat _ f |
    .readPlan _ f | .activatePlan _ f | .setGain _ f | .readTracks _ f | .readLinks _ f |
    .readSetting _ f | .writeSetting _ f | .enableStore _ f | .disableStore _ f |
    .storeSettings _ f => f.wellFormed

end Sys2Proof
end

