-- ==== Sys2Proof/Tests/Slice0.lean ====
section
/-! SUPPORT. The model's own tests: what the well-formedness check refuses, examples that the manual works out,
and for each statement with hypotheses concrete states and operands that meet them, clause by clause and at the
ends of their ranges. -/

namespace Sys2Proof.Tests

open Sys2Proof Sys2Proof.Machine

/-! ### States and Frames to test with -/

/-- The part right after its load, CLOSED. -/
def live : State := { State.reset with power := .running }

/-- A Frame of these bytes at lane width 1, or of some edges. -/
def frame (bs : List Byte) : Frame := Frame.ofBytes .one bs

def ticks (n : Nat) : Frame := Frame.ofBytes .one [] n

/-- A port that takes every Frame a host sends it at one lane. -/
def takesAll (s : State) (p : Port) : Prop := ∀ bs tail, s.takes p (Frame.ofBytes .one bs tail)

/-- Edges of a Frame that fell before the release of RESET. -/
def cutShort (n : Nat) : Frame := ⟨[], n, none, .released⟩

/-- An open Session in a state, with a target. -/
def session (x : ProceedingsState) (t : Option (Target × Party)) (clock : Nat) : State :=
  { live with
    inPeriod := true
    proc := { startProceedings with
      state := x
      target := t
      session := 1
      clock := clock
      recording := x.records } }

/-- The same at a Block Boundary that is open. -/
def opening (x next : ProceedingsState) (t : Option (Target × Party)) : State :=
  { session x t 480 with inPeriod := false, stage := .turned next none }

/-- A stored Block of a Sequence. -/
def take (q : Nat) (c : BlockClass) : Block :=
  ⟨.audio, c, .w24, 0, q, 1, 0, 480 * q, 1, 0, none, 480 * q + 479, [], []⟩

/-- A port A Reader that follows, with a Block to read and one to release. -/
def follower (r : Retention) : Reader :=
  { startReader with state := .following, retention := some r, read := 5, release := 4, mark := 0 }

/-- A ring of the Blocks 4 and 5, followed by port A. -/
def reading (r : Retention) : State :=
  { live with
    ring := { startRing with next := 6, blocks := [take 4 .opened, take 5 .opened] }
    readers := ⟨follower r, startReader⟩ }

/-- A transfer of some edges in flight on port A. -/
def inFlight (d : Delivery) (bytes : List Byte) (edges : Nat) (cut : Option Nat) : State :=
  { reading .yielding with readers :=
    ⟨{ follower .yielding with flight := some ⟨d, bytes, .one, edges, cut⟩ }, startReader⟩ }

/-- A ring of some Blocks that a BINDING Reader keeps. -/
def filled (n : Nat) (gap : Option PendingGap) : State :=
  { live with
    ring := { startRing with next := n, blocks := List.replicate n (take 0 .opened), gap := gap }
    readers := ⟨{ follower .binding with release := 0, read := 0 }, startReader⟩ }

def noted : Mark := ⟨0, .note, .portA, 0, none, 0, none, false, false⟩

/-- A Mark List of some Marks that a BINDING Reader keeps. -/
def filledMarks (n lost : Nat) : State :=
  { live with
    marks := ⟨List.replicate n noted, n, lost, if lost = 0 then none else some 7⟩
    readers := ⟨{ follower .binding with release := 0, read := 0 }, startReader⟩ }

def oneGap : PendingGap := ⟨1, false, 0, 0, .w24, 479⟩

/-! ### What is not well formed (R55, R171, R197) -/

theorem test_long_link_frame_refused :
    (Instr.linkFrame 0 (.started (List.replicate 117 false))).wellFormed = false := by decide

theorem test_long_lock_frame_refused :
    (Instr.linkLock 0 (.started (List.replicate 117 false))).wellFormed = false := by decide

theorem test_long_seek_frame_refused :
    (Instr.linkSeekTimeout 0 (.started (List.replicate 117 false))).wellFormed = false := by decide

theorem test_long_relock_frame_refused :
    (Instr.linkRelock 0 (.started (List.replicate 117 false))).wellFormed = false := by decide

theorem test_long_down_frame_refused :
    (Instr.linkDown 0 (.started (List.replicate 117 false))).wellFormed = false := by decide

theorem test_gain_order_twice_refused : (Instr.pendingGainApply [3, 3]).wellFormed = false := by decide

theorem test_empty_load_frame_refused : (Instr.frameDuringLoad .a ⟨0, .steady⟩).wellFormed = false := by decide

theorem test_whole_short_frame_refused : (Instr.shortFrame .a ⟨8, .steady⟩).wellFormed = false := by decide

theorem test_reset_beyond_frame_refused : (Instr.status .a ⟨[], 0, none, .asserted 9⟩).wellFormed = false ∧
    (Instr.status .a ⟨[], 0, none, .asserted 8⟩).wellFormed = true ∧
    (Instr.shortFrame .a ⟨3, .asserted 4⟩).wellFormed = false := by decide

theorem test_known_code_refused : (Instr.unknownCommand .a 0xC0 (ticks 0)).wellFormed = false := by decide

/-! ### Examples of the manual -/

/-- The two frames of R2. -/
theorem test_crc_examples :
    crc8 (linkMessage 0 #v[0, 0, 0, 0]) = 0x00 ∧ crc8 (linkMessage 0 #v[0, 0, 0, 1]) = 0x07 := by
  decide +kernel

/-- The bits of E9H on lane 0, most significant first, are CLOSE_SESSION (Table 9.2). -/
theorem test_close_session_bits :
    frameRow .b false .steady [1, 1, 1, 0, 1, 0, 0, 1] none = .closeSession .b ⟨[], 0, none, .steady⟩ := by decide

/-- D4H and a Sequence of five bytes at four lanes (R168, R198). -/
theorem test_seek_bytes_of_four_lanes :
    Frame.bytes .four ⟨[0, 1, 0, 2, 0, 0, 0, 0, 0, 0], 0, none, .steady⟩ 5 = [1, 2, 0, 0, 0] := by decide

/-- A HALF of samples 3 and 4 at unity gain is 3.5, rounded away from zero (R44). -/
theorem test_half_rounds_away : scaled .w24 .half 256 7 = 4 ∧ scaled .w24 .half 256 (-7) = -4 := by decide

/-- A width 16 top of range clips (R45). -/
theorem test_top_clips : isClip .w16 32768 = true ∧ saturate .w16 32768 = 32767 ∧ isClip .w16 32767 = false := by
  decide

/-- The factory default plan stores 32 DIRECT Tracks of width 16: 32 × 480 × 2 bytes, and it passes (R33, R40,
Table 2.1). -/
theorem test_default_plan : defaultPlan.trackCount = 32 ∧ defaultPlan.bodyLength = 30720 ∧
    defaultPlan.fault = none := by decide

/-- SET_STATE ON_RECORD in OFF_RECORD is pending until the boundary (Table 5.3). -/
theorem test_set_state_pends : (session .offRecord none 5).setState .a 1 =
    (.ok, (session .offRecord none 5).setTarget (some (.onRecord, .portA))) := by decide

/-- A RELEASE of Sequence 4 frees it, and of 9 clamps at the Read Cursor (R140). -/
theorem test_release :
    (State.release (reading .binding) .a 4).1 = .ok ∧ (State.release (reading .binding) .a 9).1 = .clamped ∧
    (State.release (reading .binding) .a 3).1 = .already := by decide

/-- A change of a Bench Line is accepted only at its 960th Sample Period (R95). -/
theorem test_bench_counts : ((⟨false, 959, 0, false⟩ : BenchLine).sample true 7 false).count = 960 := by decide

/-- With an attack count of 1, one loud Block makes a QUIET Track ACTIVE (R65). -/
theorem test_attack_of_one : (startActivity.update ⟨1024, 1, 30, true⟩ 1024).state = .active := by decide

/-- STATUS right after power is answered BUSY (R175). -/
theorem test_status_during_load :
    (State.readFrame State.reset .a (ticks 16) 0 neverRefused fun t _ => t.statusData .a).ports.a =
      ⟨.busy, false, [some 0, some 0, some 0], [], none⟩ := by decide

/-- Four edges bring the first four bits of the Result BUSY, 10H (R167, R169, Table 12.8). -/
theorem test_result_bits : (State.answer (State.setResult live .a .busy) .a .one 4 .badFrame).ports.a.part =
    [some false, some false, some false, some true] := by decide

/-- A Frame that fell before the release of RESET is not judged, and the Frame after it is (R175). -/
theorem test_abandoned :
    (State.takeFrame live .a .one 4 .released fun t => t.answer .a .one 4 .badFrame) = live ∧
      (State.takeFrame live .a .one 4 .steady fun t => t.answer .a .one 4 .badFrame).ports.a.result = .badFrame := by
  decide +kernel

/-- A Frame that fell in the load, with the bytes of a STATUS: after the load, too, RESET finds the Result BUSY out
and 00H after it (R169, R175). -/
theorem test_load_frame_meets_reset :
    frameRow .a true (.asserted 12) (byteEdges .one 0xC0 ++ List.replicate 8 0) none =
        .frameDuringLoad .a ⟨16, .asserted 12⟩ ∧
      ∃ t, exec (.frameDuringLoad .a ⟨16, .asserted 12⟩) (live.setResult .a .busy) = .next t ∧
        t.ports.a = ⟨.busy, false, [some 0x10, some 0], [], none⟩ := by
  exact ⟨by decide, _, rfl, by decide +kernel⟩

/-! ### Witnesses: Frames -/

theorem witness_StepTakesFront : State.reset.pending = [] := rfl

theorem witness_FramesReadFromTheWire :
    commandOf .a (ticks 0) 0xC0 = some (.status .a (ticks 0)) ∧
    codeOf (.storeSettings .b (ticks 0)) = some 0xB4 ∧ commandOf .a (ticks 0) 0x00 = none ∧
    ([0, 0, 0, 0, 0, 0, 0] : List Nibble).length < 8 ∧ 255 < 256 ^ 1 := by decide

theorem witness_FramesWithoutCommand :
    live.takes .b (ticks 9) ∧ commandOf .b (ticks 9) 0xFF = none ∧
      State.reset.power = .loading ∧ State.reset.resetLine = false :=
  ⟨⟨⟨rfl, rfl, rfl, rfl⟩, rfl⟩, rfl, rfl, rfl⟩

/-- A Frame of 24 edges in which RESET is asserted after `k` of them. -/
def cutAt (k : Nat) : Frame := ⟨[], 16, none, .asserted k⟩

/-- STATUS right after the load with Result BUSY, 10H, of which RESET leaves four bits, or the byte and half of 00H;
after eight edges in a load the Result OK is out, and nothing else comes of it (R169, R175). -/
theorem test_reset_in_frame :
    (State.readFrame (live.setResult .a .busy) .a (cutAt 4) 0 neverRefused fun _ _ => [0xAB, 0xCD]).ports.a.out =
        [some 0x10, some 0, some 0] ∧
      (State.readFrame (live.setResult .a .busy) .a (cutAt 3) 0 neverRefused fun _ _ => [0xAB, 0xCD]).ports.a.out =
        [some 0, some 0, some 0] ∧
      (State.readFrame (live.setResult .a .busy) .a (cutAt 12) 0 neverRefused fun _ _ => [0xAB, 0xCD]).ports.a =
        ⟨.busy, false, [some 0x10, some 0xA0, some 0], [], none⟩ ∧
      (State.readFrame State.reset .a (cutAt 8) 0 neverRefused fun _ _ => [0xAB, 0xCD]).ports.a =
        ⟨.ok, false, [some 0, some 0, some 0], [], none⟩ := by
  decide +kernel

theorem witness_FramesInLoadAndReset_asserted :
    commandOf .a (cutAt 4) 0xC0 = some (.status .a (cutAt 4)) ∧ commandOf .a (cutAt 4) 0xFF = none ∧
      (ticks 16).reset = .steady ∧ ({ ticks 16 with reset := .asserted 4 } : Frame) = cutAt 4 ∧
      live.ready .a ∧ State.reset.power = .loading ∧ (State.reset.readers.get .a).flight = none ∧
      (∃ t, exec (.status .a (ticks 16)) live = .next t) ∧
      ∃ t, exec (.unknownCommand .a 0xFF (ticks 16)) live = .next t :=
  ⟨rfl, rfl, rfl, rfl, ⟨rfl, rfl, rfl, rfl⟩, rfl, rfl, ⟨_, rfl⟩, ⟨_, rfl⟩⟩

theorem witness_FramesInLoadAndReset :
    portCommand (.status .a (ticks 0)) = some (.a, ticks 0) ∧ State.reset.power = .loading ∧
      State.reset.resetLine = false ∧ (ticks 0).reset = .steady ∧
      ({ live with resetLine := true } : State).power ≠ .off ∧ live.resetLine = false ∧
      portCommand (.status .a (cutShort 0)) = some (.a, cutShort 0) ∧ (cutShort 9).reset = .released ∧
      commandOf .a (cutShort 9) 0xFF = none :=
  ⟨rfl, rfl, rfl, rfl, by decide, rfl, rfl, rfl, rfl⟩

theorem witness_FramesFinishWhatIsOpen :
    portCommand (.setState .a (frame [1])) = some (.a, frame [1]) ∧
      (opening .offRecord .offRecord none).live = true ∧
      (frame [1]).reset = .steady := ⟨rfl, rfl, rfl⟩

theorem witness_FramesLeaveOtherPort :
    portCommand (.detach .a (ticks 0)) = some (.a, ticks 0) ∧ ∃ t, exec (.detach .a (ticks 0)) live = .next t :=
  ⟨rfl, _, rfl⟩

theorem witness_ParametersAreWhole :
    takesAll live .a ∧ writeCommand (.ackEvents .a (ticks 15)) = some (.a, ticks 15, 2) ∧
      (ticks 15).edges ≠ 2 * (live.timingOf .a (ticks 15)).lanes.edgesPerByte ∧
      readCommand (.readSetting .a (ticks 15)) = some (.a, ticks 15, 2) ∧
      (ticks 15).edges < 2 * (live.timingOf .a (ticks 15)).lanes.edgesPerByte :=
  ⟨fun _ _ => ⟨⟨rfl, rfl, rfl, rfl⟩, rfl⟩, rfl, by decide, rfl, by decide⟩

theorem witness_PlainReads :
    takesAll live .a ∧ 2 * (live.timingOf .a (frame [0xFF, 0xFF])).lanes.edgesPerByte ≤ (frame [0xFF, 0xFF]).edges ∧
      (frame [0xFF, 0xFF]).bytes (live.timingOf .a (frame [0xFF, 0xFF])).lanes 2 = le 2 65535 ∧
      settingOf 65535 = none ∧ (frame [0, 6]).bytes .one 2 = le 2 0x0600 ∧ settingOf 0x0600 = some .fill ∧
      2 ≤ (frame [0, 6]).edges / (live.timingOf .a (frame [0, 6])).lanes.edgesPerByte :=
  ⟨fun _ _ => ⟨⟨rfl, rfl, rfl, rfl⟩, rfl⟩, by decide, by decide, by decide, by decide, by decide, by decide⟩

theorem witness_EventCommands :
    takesAll live .a ∧ live.hears .a (frame (le 2 65535)) (le 2 (65535#16).toNat) :=
  ⟨fun _ _ => ⟨⟨rfl, rfl, rfl, rfl⟩, rfl⟩, by decide, by decide⟩

theorem witness_PortReset : takesAll live .b ∧ (ticks 0).edges = 0 := ⟨fun _ _ => ⟨⟨rfl, rfl, rfl, rfl⟩, rfl⟩, rfl⟩

/-! ### Witnesses: Readers -/

theorem witness_AttachAndDetach :
    takesAll live .a ∧ live.hears .a (frame [1]) [1] ∧ live.hears .a (frame [2]) [2] ∧
      (live.readers.get .a).pair = .complete ∧ (live.readers.get .a).state = .detached ∧
      (∀ x, takesAll (live.setReader .a { startReader with pair := x }) .a ∧
        ((live.setReader .a { startReader with pair := x }).readers.get .a).pair = x) ∧
      takesAll (reading .binding) .a ∧ ((reading .binding).readers.get .a).state ≠ .detached ∧
      ((reading .binding).readers.get .a).pair = .complete ∧ (ticks 0).edges = 0 :=
  ⟨fun _ _ => ⟨⟨rfl, rfl, rfl, rfl⟩, rfl⟩, ⟨by decide, by decide⟩, ⟨by decide, by decide⟩, rfl, rfl,
    fun _ => ⟨fun _ _ => ⟨⟨rfl, rfl, rfl, rfl⟩, rfl⟩, rfl⟩, fun _ _ => ⟨⟨rfl, rfl, rfl, rfl⟩, rfl⟩, by decide, rfl, rfl⟩

theorem witness_LevelPair :
    takesAll live .a ∧ live.hears .a (frame (le 2 8191)) (le 2 8191) ∧ live.hears .a (frame (le 2 8192)) (le 2 8192) :=
  ⟨fun _ _ => ⟨⟨rfl, rfl, rfl, rfl⟩, rfl⟩, ⟨by decide, by decide⟩, by decide, by decide⟩

theorem witness_ReleaseAndSeek :
    takesAll (reading .binding) .a ∧ (live.readers.get .a).state = .detached ∧
      ((reading .binding).readers.get .a).state ≠ .detached ∧
      (∀ q ∈ [3, 4, 5], (reading .binding).hears .a (frame (le 4 q)) (le 4 q)) ∧
      (∀ q ∈ [3, 4, 6, 7], (reading .binding).hears .a (frame (le 5 q)) (le 5 q)) ∧
      (3 + 1 ≤ ((reading .binding).readers.get .a).release) ∧
      (((reading .binding).readers.get .a).release < 4 + 1 ∧ 4 + 1 ≤ ((reading .binding).readers.get .a).read) ∧
      ((reading .binding).readers.get .a).read < 5 + 1 ∧
      (reading .binding).ring.next - (reading .binding).ring.blocks.length = 4 ∧ (reading .binding).ring.next = 6 := by
  refine ⟨fun _ _ => ⟨⟨rfl, rfl, rfl, rfl⟩, rfl⟩, rfl, by decide, ?_, ?_, by decide, by decide, by decide, rfl, rfl⟩ <;>
    (simp only [List.forall_mem_cons]; unfold State.hears; decide)

theorem witness_ReadBlockBegins :
    takesAll (reading .yielding) .a ∧ takesAll live .a ∧ (frame [2]).byteAt .one 0 = 2 ∧
      (frame [1]).edges = 8 ∧ dataStart ((reading .yielding).timingOf .a (frame [1])) = 72 ∧
      (Frame.ofBytes .one [1] 65).edges = 73 ∧ (reading .yielding).ring.next - 5 > 0 ∧
      (reading .yielding).ring.blockAt 5 = some (take 5 .opened) ∧
      ((reading .yielding).readers.get .a).read = 5 :=
  ⟨fun _ _ => ⟨⟨rfl, rfl, rfl, rfl⟩, rfl⟩, fun _ _ => ⟨⟨rfl, rfl, rfl, rfl⟩, rfl⟩, by decide, by decide, by decide, by decide, by decide, by decide, rfl⟩

theorem witness_ReadBlockEnds :
    (∀ d edges cut, ((inFlight d [7] edges cut).readers.get .a).flight = some ⟨d, [7], .one, edges, cut⟩ ∧
      (inFlight d [7] edges cut).stage = .idle) ∧
    (8 % LaneWidth.one.edgesPerByte = 0 ∧ [(7 : Byte)].length ≤ 8 / LaneWidth.one.edgesPerByte) ∧
    ¬(7 % LaneWidth.one.edgesPerByte = 0 ∧ [(7 : Byte)].length ≤ 7 / LaneWidth.one.edgesPerByte) ∧
    (some 4 : Option Nat).isSome :=
  ⟨fun _ _ _ => ⟨rfl, rfl⟩, by decide, by decide, rfl⟩

theorem witness_ReadMarks :
    (∀ c ∈ [0, 1, 16, 17], ((frame [c]).byteAt .one 0) = c) ∧ takesAll (reading .yielding) .a ∧
      (Frame.ofBytes .one [16] 65).edges = 73 ∧
      (⟨[noted], 1, 0, none⟩ : MarkList).wf ∧ (⟨[noted], 1, 0, none⟩ : MarkList).oldest ≤ 0 ∧
      ∀ k, ((inFlight (.marks 0 k) [0] 8 none).readers.get .a).flight = some ⟨.marks 0 k, [0], .one, 8, none⟩ :=
  ⟨by decide, fun _ _ => ⟨⟨rfl, rfl, rfl, rfl⟩, rfl⟩, by decide, ⟨by decide, by decide, rfl⟩, by decide, fun _ => rfl⟩

/-- A sidebar in progress, with the restricted-clip indication as given. -/
def concealed (clip : Bool) : State :=
  { session .sidebar none 5 with
    proc := { (session .sidebar none 5).proc with restricted := true }
    tracks := { startTracks with restrictedClip := clip } }

theorem witness_RestrictedContentWithheld :
    (take 4 .restricted).cls = .restricted ∧ (take 4 .opened).cls ≠ .restricted ∧
      ({ noted with restricted := true, tag := some 1 } : Mark).restricted = true ∧
      ({ noted with restricted := true } : Mark).tag = none ∧
      live.settings.guarded.access.get .b = .denied ∧ (concealed true).tracks.restrictedClip = true ∧
      (concealed false).proc.state ≠ .closed ∧ (concealed false).proc.restricted = true ∧
      (concealed false).proc.verify = false ∧ (⟨0, .restricted, none, []⟩ : LastBlock).cls = .restricted :=
  ⟨rfl, by decide, rfl, rfl, rfl, rfl, by decide, rfl, rfl, rfl⟩

/-! ### Witnesses: Holds, notes, proceedings -/

/-- A ring whose Hold Table is full of a port's Holds. -/
def held (p : Port) : State :=
  { reading .binding with ring := { (reading .binding).ring with
    holds := Vector.replicate 8 (some ⟨p, .binding, 4, 5⟩), lastPlaced := ⟨some 7, none⟩ } }

/-- A ring of 6145 Blocks from Sequence 0. -/
def longRing : State :=
  { live with ring := { startRing with next := 6145, blocks := List.replicate 6145 (take 0 .opened) } }

theorem witness_PlaceAndDropHolds :
    (reading .binding).hears .a (frame (le 4 4 ++ le 4 5)) (le 4 4 ++ le 4 5) ∧
      (reading .binding).ring.blocks ≠ [] ∧
      (reading .binding).ring.next - (reading .binding).ring.blocks.length ≤ 4 ∧ 5 + 1 ≤ (reading .binding).ring.next ∧
      live.ring.blocks = [] ∧ longRing.ring.blocks ≠ [] ∧
      longRing.ring.next - longRing.ring.blocks.length ≤ 0 ∧ 6144 - 0 + 1 > 6144 ∧ 6143 - 0 + 1 ≤ 6144 ∧
      longRing.hears .a (frame (le 4 0 ++ le 4 6144)) (le 4 0 ++ le 4 6144) ∧
      (∀ p, takesAll (held p) .a) ∧ (∀ p, ∀ e : Fin 8, (held p).ring.holds[e] = some ⟨p, .binding, 4, 5⟩) ∧
      (held .a).ring.lastPlaced.get .a = some 7 ∧
      (∀ e : Fin 8, live.ring.holds[e] = none) ∧ live.hears .a (frame [8]) [8] ∧ live.hears .a (frame [7]) [7] := by
  refine ⟨⟨by decide, by decide⟩, by decide, by decide, by decide, rfl, ?_, ?_, by decide, by decide,
    ⟨by decide, by decide⟩, fun _ _ _ => ⟨⟨rfl, rfl, rfl, rfl⟩, rfl⟩, fun p e => by simp [held], rfl, by decide,
    ⟨by decide, by decide⟩, by decide, by decide⟩
  · simp [longRing, -List.reduceReplicate]
  · simp [longRing, -List.reduceReplicate]

/-- Ports' last-placed entries that hold their Holds, the one to drop among them and another one. -/
theorem witness_PlaceAndDropHolds_lastPlaced :
    (∃ r : Ring, r.lastPlacedWf ∧ r.lastPlaced = ⟨some 7, none⟩ ∧ r.holds = (held .a).ring.holds) ∧
      ∃ r : Ring, r.lastPlacedWf ∧ r.lastPlaced = ⟨some 7, some 6⟩ ∧
        r.holds[(5 : Fin 8)] = some ⟨.a, .binding, 4, 5⟩ := by
  refine ⟨⟨{ (held .a).ring with lastPlaced := ⟨some 7, none⟩ }, ?_, rfl, rfl⟩,
    ⟨{ (held .a).ring with
      holds := (held .a).ring.holds.set 6 (some ⟨.b, .binding, 4, 5⟩)
      lastPlaced := ⟨some 7, some 6⟩ }, ?_, rfl, rfl⟩⟩
  · rintro (_ | _) e h
    · cases h
      exact ⟨_, rfl, rfl⟩
    · cases h
  · rintro (_ | _) e h <;> cases h
    · exact ⟨_, rfl, rfl⟩
    · exact ⟨_, rfl, rfl⟩

theorem witness_AddNote :
    takesAll (session .onRecord none 1000) .a ∧
      (∀ c ∈ [0, 1, 2], (session .onRecord none 1000).hears .a (frame (c :: (le 6 1001 ++ le 2 7 ++ le 4 9)))
        (c :: (le 6 1001 ++ le 2 7 ++ le 4 9))) ∧
      (session .onRecord none 1000).proc.state ≠ .closed ∧ live.proc.state = .closed ∧
      (reading .binding).ring.blocks.head? = some (take 4 .opened) := by
  refine ⟨fun _ _ => ⟨⟨rfl, rfl, rfl, rfl⟩, rfl⟩, ?_, by decide, rfl, rfl⟩
  simp only [List.forall_mem_cons]
  unfold State.hears
  decide

/-- A record of which port B, YIELDING, is being sent something when port A opens a Session. -/
def sending (d : Delivery) : State :=
  { live with readers := ⟨startReader, { follower .yielding with flight := some ⟨d, [7], .one, 8, none⟩ }⟩ }

theorem witness_OpenSession_overtakes :
    (∀ d, takesAll (sending d) .a ∧ (sending d).proc.state = .closed ∧ (sending d).ring.gap = none ∧
      (sending d).readers.b.state ≠ .detached ∧ (sending d).readers.b.retention ≠ some .binding ∧
      (sending d).readers.b.flight = some ⟨d, [7], .one, 8, none⟩) ∧ Delivery.block 4 ≠ .emptyReply :=
  ⟨fun _ => ⟨fun _ _ => ⟨⟨rfl, rfl, rfl, rfl⟩, rfl⟩, rfl, rfl, by simp [sending, follower],
    by simp [sending, follower], rfl⟩, by decide⟩

theorem witness_OpenSession :
    takesAll live .a ∧ (∀ c ∈ [0, 1, 2], live.hears .a (frame [c]) [c]) ∧ live.proc.state = .closed ∧
      live.ring.gap = none ∧ (filled 8192 none).proc.state = .closed ∧
      ((filled 8192 none).readers.a.state ≠ .detached ∧ (filled 8192 none).readers.a.retention = some .binding ∧
        (filled 8192 none).ring.next - (filled 8192 none).readers.a.read > 0) ∧
      (session .offRecord none 0).proc.state ≠ .closed := by
  refine ⟨fun _ _ => ⟨⟨rfl, rfl, rfl, rfl⟩, rfl⟩, ?_, rfl, rfl, rfl, by decide, by decide⟩
  simp only [List.forall_mem_cons]
  unfold State.hears
  decide

theorem witness_StateRequests :
    (∀ x t, takesAll (session x t 5) .a) ∧
      (∀ c ∈ [0, 1, 2, 3, 4], (session .onRecord none 5).hears .a (frame [c]) [c]) ∧
      (session .sidebar (some (.close, .portB)) 5).proc.target = some (.close, .portB) ∧
      (session .onRecord none 5).proc.target.map Prod.fst ≠ some .close ∧
      requestTable .sidebar none true .onRecord = some (.benchHeld, none) ∧
      requestTable .offRecord (some .sidebar) false .offRecord = some (.ok, none) := by
  refine ⟨fun _ _ _ _ => ⟨⟨rfl, rfl, rfl, rfl⟩, rfl⟩, ?_, rfl, by decide, rfl, rfl⟩
  simp only [List.forall_mem_cons]
  unfold State.hears
  decide

/-! ### Witnesses: plans, gains, settings, the store -/

theorem witness_PlanEdits :
    takesAll live .a ∧ (ticks 0).edges = 0 ∧
      (∀ e ∈ [15, 16], live.hears .a (frame [e, 0, 32, 1]) [e, 0, 32, 1]) ∧
      (∀ c ∈ [4, 5], live.hears .a (frame [0, 0, 32, c]) [0, 0, 32, c]) ∧
      ∀ w ∈ [16, 17, 24], live.hears .a (frame [w, 32]) [w, 32] := by
  refine ⟨fun _ _ => ⟨⟨rfl, rfl, rfl, rfl⟩, rfl⟩, rfl, ?_, ?_, ?_⟩ <;>
    (simp only [List.forall_mem_cons]; unfold State.hears; decide)

/-- Plans that fail and pass. -/
def emptyPlan : Plan := { defaultPlan with entries := Vector.replicate 16 none }

/-- The default plan with other Groups and another width and total. -/
def planOf (w : Width) (total : Nat) (g h : Option Group) : Plan :=
  ⟨w, total, ((Vector.replicate 16 none).set 0 g).set 15 h⟩

/-- One plan for each check, and one on both sides of the ends of Table 2.2. -/
theorem witness_PlanValidation :
    emptyPlan.fault = some .planEmpty ∧ (planOf .w16 1 (some ⟨.direct, 31, 2⟩) none).fault = some .planRange ∧
      (planOf .w16 1 (some ⟨.sum, 0, 5⟩) none).fault = some .planSumWidth ∧
      (planOf .w16 3 (some ⟨.sum, 0, 4⟩) (some ⟨.half, 3, 2⟩)).fault = some .planOverlap ∧
      (planOf .w16 2 (some ⟨.sum, 0, 4⟩) (some ⟨.half, 4, 2⟩)).fault = some .planTotal ∧
      (planOf .w16 3 (some ⟨.sum, 0, 4⟩) (some ⟨.half, 4, 2⟩)).fault = none ∧
      (planOf .w24 32 (some ⟨.direct, 0, 32⟩) none).fault = some .planSize := by decide

theorem witness_ActivatePlan :
    takesAll live .a ∧ live.hears .a (frame (le 2 0)) (le 2 (0#16).toNat) ∧
      live.hears .a (frame (le 2 1)) (le 2 (1#16).toNat) ∧ live.plans.editCount = 0 ∧
      live.plans.pendingPlan.fault = none ∧ emptyPlan.fault = some .planEmpty ∧ live.proc.state = .closed ∧
      (session .offRecord (some (.onRecord, .portA)) 5).plans.pendingPlan.fault = none ∧
      (session .offRecord none 5).proc.state = .offRecord ∧ (session .onRecord none 5).proc.state = .onRecord :=
  ⟨fun _ _ => ⟨⟨rfl, rfl, rfl, rfl⟩, rfl⟩, ⟨by decide, by decide⟩, ⟨by decide, by decide⟩, rfl, by decide, by decide, rfl,
    by decide, rfl, rfl⟩

theorem witness_SetGain :
    takesAll live .a ∧ (∀ k ∈ [31, 32], live.hears .a (frame (k :: le 2 1023)) (k :: le 2 1023)) ∧
      live.hears .a (frame (31 :: le 2 1024)) (31 :: le 2 1024) ∧ live.proc.state = .closed ∧
      (session .offRecord none 5).proc.state ≠ .closed ∧ (31 : Byte).toNat = (31 : Fin 32).val := by
  refine ⟨fun _ _ => ⟨⟨rfl, rfl, rfl, rfl⟩, rfl⟩, ?_, ⟨by decide, by decide⟩, rfl, by decide, rfl⟩
  simp only [List.forall_mem_cons]
  unfold State.hears
  decide

/-- A running part with every link turned off. -/
def unlinked (inPeriod : Bool) : State :=
  { live.setGeneral { defaultGeneral with linkEnable := Vector.replicate 8 false } with inPeriod := inPeriod }

theorem witness_WriteSetting :
    takesAll live .a ∧ live.hears .a (frame (le 2 0x0D00 ++ le 4 3)) (le 2 0x0D00 ++ le 4 3) ∧
      settingOf 0x0D00 = some .guard ∧ settingOf 0x0D01 = none ∧ SettingName.guard.accepts 3 ∧
      ¬SettingName.guard.accepts 4 ∧ SettingName.margin.accepts 32767 ∧ ¬SettingName.margin.accepts 32768 ∧
      ({ defaultGuarded with mode := .fixed } : GuardedSettings).mode ≠ .opened ∧
      live.changes = noChanges ∧ (session .offRecord none 5).sessionOpen = true ∧
      (live.written .margin 32767).isSome ∧ live.sessionOpen = false ∧
      (live.written (.hangover 31) 255).isSome ∧ (live.written (.eligible 0) 0).isSome ∧
      (live.written .source 1).isSome ∧ (live.written (.linkEnable 7) 0).isSome ∧
      live.settings.general.linkEnable[(7 : Fin 8)] = true ∧
      (unlinked true).settings.general.linkEnable[(7 : Fin 8)] = false ∧ (unlinked true).awaitsFrame 7 = true ∧
      (unlinked false).awaitsFrame 7 = false := by
  refine ⟨fun _ _ => ⟨⟨rfl, rfl, rfl, rfl⟩, rfl⟩, ⟨by decide, by decide⟩, by decide, by decide, ?_, ?_, ?_, ?_, by decide, rfl,
    rfl, rfl, rfl, rfl, rfl, rfl, rfl, by decide, by decide, by decide, by decide⟩ <;>
    simp [SettingName.accepts]

/-- A store of port A in progress. -/
def storing (n : Bool) : State := { live with store := some ⟨.a, defaultGeneral, defaultGuarded, n⟩ }

theorem witness_Storing :
    takesAll live .a ∧ (ticks 0).edges = 0 ∧ (live.ports.get .a).latch = false ∧ live.store = none ∧
      takesAll (storing true) .a ∧ (storing true).store ≠ none ∧
      ((live.setLatch .a true).ports.get .a).latch = true ∧
      (storing false).store = some ⟨.a, defaultGeneral, defaultGuarded, false⟩ :=
  ⟨fun _ _ => ⟨⟨rfl, rfl, rfl, rfl⟩, rfl⟩, rfl, rfl, rfl, fun _ _ => ⟨⟨rfl, rfl, rfl, rfl⟩, rfl⟩, by simp [storing], rfl, rfl⟩

/-- A part whose Image is fixed. -/
def fixedPart : State :=
  { storing true with
    image := ⟨⟨true, true, defaultGeneral⟩, ⟨true, true, { defaultGuarded with mode := .fixed }⟩⟩ }

theorem witness_FixedForEver :
    fixedPart.image.guarded.checkMatches = true ∧ fixedPart.image.guarded.content.mode = .fixed ∧
      ∃ t, exec .storeCompletion fixedPart = .next t := ⟨rfl, rfl, _, rfl⟩

theorem witness_PowerOnAndLoss :
    live.store = none ∧ (storing true).store = some ⟨.a, defaultGeneral, defaultGuarded, true⟩ ∧
      fixedPart.image.guarded.content.mode = .fixed ∧ (storing true).image.guarded.checkMatches = false :=
  ⟨rfl, rfl, rfl, rfl⟩

theorem witness_LoadCompletes :
    State.reset.power = .loading ∧ State.reset.resetLine = false ∧ State.reset.image.general.checkMatches = false ∧
      fixedPart.image.general.checkMatches = true ∧ fixedPart.image.general.content.plan.fault = none ∧
      fixedPart.image.general.content.inRange = true ∧ fixedPart.image.guarded.codesDefined = true :=
  ⟨rfl, rfl, rfl, rfl, by decide, by decide, rfl⟩

theorem witness_ResetLine :
    live.power = .running ∧ live.resetLine = false ∧ live.stage = .idle ∧
      State.reset.power = .loading ∧ State.reset.resetLine = false ∧
      ({ live with resetLine := true } : State).resetLine = true ∧ (live.readers.get .a).flight = none ∧
      ((inFlight .emptyReply [1] 8 none).readers.get .a).flight = some ⟨.emptyReply, [1], .one, 8, none⟩ ∧
      (inFlight .emptyReply [1] 8 none).stage = .idle ∧
      ({ State.reset with resetLine := true } : State).power = .loading :=
  ⟨rfl, rfl, rfl, rfl, rfl, rfl, rfl, rfl, rfl, rfl⟩

/-- RESET in a READ_BLOCK of which a byte A5H and four bits of B7H are out: the rest is 00H to the rise (R175). -/
def resetInTransfer : State := (inFlight (.block 5) [0xA5, 0xB7, 0xC9] 12 none).assertReset

theorem test_reset_in_transfer :
    resetInTransfer.ports.a.out = [some 0xA5] ∧
      resetInTransfer.ports.a.part = [some true, some false, some true, some true] ∧
      (resetInTransfer.riseOf .a true 12).ports.a = ⟨.ok, false, [some 0xA5, some 0xB0, some 0], [], none⟩ ∧
      (resetInTransfer.riseOf .a true 2).ports.a.part =
        [some true, some false, some true, some true, some false, some false] ∧
      (resetInTransfer.riseOf .a false 12) = resetInTransfer := by
  decide +kernel

theorem witness_ResetLine_ended :
    resetInTransfer.ports.a.ended = some ⟨.block 5, [0xA5, 0xB7, 0xC9], .one, 12, none⟩ ∧
      (resetInTransfer.readers.get .a).flight = none ∧
      (inFlight (.marks 0 1) [1] 12 none).assertReset.ports.a.ended = some ⟨.marks 0 1, [1], .one, 12, none⟩ ∧
      ((inFlight (.marks 0 1) [1] 12 none).assertReset.readers.get .a).flight = none := ⟨rfl, rfl, rfl, rfl⟩

/-! ### Witnesses: time, links, the clock, Bench Lines -/

theorem witness_SamplePeriods :
    (session .onRecord none 478).power = .running ∧ (session .onRecord none 478).stage = .idle ∧
      (session .onRecord none 478).inPeriod = true ∧ (session .onRecord none 478).boundaryDue = false ∧
      (session .onRecord none 479).boundaryDue = true ∧
      ∃ u, exec (.blockBoundary 0) (session .onRecord none 479) = .next u :=
  ⟨rfl, rfl, rfl, by decide, by decide, _, rfl⟩

theorem witness_SamplePeriods_idle :
    live.power = .running ∧ live.resetLine = false ∧ live.stage = .idle ∧ live.inPeriod = false ∧
      live.proc.state = .closed := ⟨rfl, rfl, rfl, rfl, rfl⟩

/-- The first period of a level that differs begins a change, with no time of its own in CLOSED (R95). -/
theorem test_bench_line_sampled :
    (State.samplePeriod live true ⟨false, false, false, true, false⟩).proc.lines.mark = ⟨false, 1, 0, true⟩ ∧
      (State.samplePeriod live true ⟨false, false, false, true, false⟩).proc.lines.key.count = 0 := by
  decide +kernel

theorem witness_LinkFramesReadBack :
    ∀ i : Fin 4, -8388608 ≤ (#v[-8388608, 8388607, 0, -1] : Vector Int 4)[i] ∧
      (#v[-8388608, 8388607, 0, -1] : Vector Int 4)[i] ≤ 8388607 := by decide

/-- A link in a state with its counts. -/
def link (x : LinkState) (run without seek slip : Nat) : Link :=
  { startLink with state := x, goodRun := run, withoutGood := without, seekStay := seek, slipStay := slip }

/-- A good frame of count 0 for a link that starts. -/
def goodFrame : LinkInput := .started (linkFrameOf 0 #v[0, 0, 0, 0])

theorem witness_LinkStates :
    (link .seeking 15 0 479 0).judge goodFrame = true ∧ (link .seeking 14 0 479 0).judge .absent = false ∧
      (link .locked 0 0 0 0).judge goodFrame = true ∧ (link .slipping 3 0 0 4799).judge goodFrame = true ∧
      (link .slipping 2 0 0 4799).judge goodFrame = true ∧ (link .slipping 2 47 0 4798).judge .absent = false ∧
      syncFound (linkFrameOf 0 #v[0, 0, 0, 0]) = true ∧ checkMatches (linkFrameOf 0 #v[0, 0, 0, 0]) = true ∧
      ((link .slipping 2 47 0 4798).framePeriod true .absent).state = .down ∧ startLink.state = .down ∧
      framed goodFrame ≠ none ∧ framed .absent = none := by decide +kernel

/-- A running part with a Sample Period in progress and link 0 as given. -/
def linked (l : Link) : State := { live with inPeriod := true, links := live.links.set 0 l }

theorem witness_LinkRows :
    (∀ l, l.heard = false → ((linked l).links[(0 : Fin 8)]).heard = false) ∧
      ((linked (link .seeking 15 0 20 0)).received 0 goodFrame).state = .locked ∧
      ((linked (link .seeking 14 0 479 0)).received 0 .absent).state = .down ∧
      ((linked (link .slipping 3 0 0 9)).received 0 goodFrame).state = .locked ∧
      ((linked (link .slipping 0 47 0 99)).received 0 .absent).state = .down := by
  refine ⟨fun l h => by simpa [linked] using h, by decide +kernel, by decide +kernel, by decide +kernel,
    by decide +kernel⟩

theorem witness_Delivery :
    ((link .locked 0 0 0 0).framePeriod true goodFrame).state = .locked ∧
      (link .locked 0 0 0 0).judge goodFrame = true ∧
      ((link .slipping 0 1 0 1).framePeriod true .absent).withoutGood = 2 ∧
      ((link .slipping 0 2 0 2).framePeriod true .absent).withoutGood = 3 ∧
      ((link .slipping 0 2 0 2).framePeriod true .absent).state = .slipping ∧
      ((link .seeking 0 0 0 0).framePeriod true .absent).state = .seeking := by decide +kernel

/-- A unit in a clock state with its counts, and the house edge of the period in progress. -/
def clocked (s : State) (c : ClockState) (present edgeless : Nat) (edge : Option Bool := none) : State :=
  { s with inPeriod := decide (s.stage = .idle), clockUnit := ⟨c, present, edgeless, edge⟩ }

/-- A WRITE_SETTING of HOUSE in an edgeless period still finds the count of 48,000 that the period before it
reached at its end (R17, R20, Table 1.6). -/
theorem test_edge_counts_at_end :
    (State.applySource (clocked live .internal 48000 0 (some false)) .house).clockUnit.state = .house ∧
      (ClockUnit.examine ⟨.fallback, 47999, 0, some true⟩).housePresent = 48000 ∧
      (clocked live .house 0 2 (some false)).endPeriod.clockUnit = ⟨.fallback, 0, 3, none⟩ := by
  decide +kernel

/-- An open boundary at which a FLOOR Mark waits for `k` others. -/
def floorWaits (k : Nat) : State :=
  { opening .onRecord .onRecord none with stage := .turned .onRecord (some (k, some 31, true)) }

theorem witness_HouseLossAndReturn :
    (clocked live .house 0 2 (some false)).clockUnit = ⟨.house, 0, 2, some false⟩ ∧
      (clocked live .house 0 2 (some false)).inPeriod = true ∧
      (clocked live .house 0 1 (some false)).clockUnit.edgeless < 2 ∧
      (clocked live .fallback 47999 0 (some true)).proc.state = .closed ∧
      (clocked (opening .onRecord .onRecord none) .fallback 48000 0).stage = .turned .onRecord none ∧
      (clocked (opening .onRecord .onRecord none) .fallback 48000 0).inPeriod = false ∧
      (clocked (opening .onRecord .onRecord none) .fallback 48000 0).closesHere = false ∧
      (clocked (floorWaits 1) .fallback 48000 0).stage = .turned .onRecord (some (1, some 31, true)) ∧
      (clocked (opening .closed .closed none) .fallback 48000 0).proc.state = .closed :=
  ⟨rfl, by decide, by decide, rfl, rfl, by decide, by decide, rfl, rfl⟩

/-- A Bench Line whose change is due. -/
def due (s : State) (l : Line) (level early : Bool) : State :=
  { s with proc := { s.proc with lines := s.proc.lines.set l ⟨level, 960, 7, early⟩ } }

theorem witness_BenchLines :
    (∀ x l level early, ((due (session x none 5) l level early).proc.lines.get l).count = 960 ∧
      ((due (session x none 5) l level early).proc.lines.get l).level = level) ∧
      (due (session .sidebar none 5) .privacy true false).proc.target = none ∧
      (due (session .onRecord (some (.close, .portA)) 5) .onRec false false).proc.target.map Prod.fst = some .close ∧
      requestTable .offRecord none false .onRecord = some (.ok, some .onRecord) ∧
      (⟨false, 959, 0, false⟩ : BenchLine).count < 960 := by
  refine ⟨fun x l _ _ => by cases l <;> exact ⟨rfl, rfl⟩, rfl, rfl, rfl, by decide⟩

/-! ### Witnesses: the boundary, the ring, the Mark List -/

/-- A Block Period about to end, its Block in progress. -/
def ending (x : ProceedingsState) : State := (session x none 479).setUpBlock

/-- The Block in progress of a plan of one Track, its Peak 5000, with 479 periods done. -/
def loudBlock : BlockInProgress :=
  ⟨1, 0, 0, planOf .w16 1 (some ⟨.direct, 0, 1⟩) none, [⟨⟨.direct, [0]⟩, 0, none, 5000, 0, some .filled, [0]⟩]⟩

/-- A Block Period about to end with which Track 0, one loud Block short of ACTIVE, gets the Floor. -/
def outspoken : State :=
  { session .onRecord none 479 with
    inProgress := some { loudBlock with
      tracks := [⟨⟨.direct, [0]⟩, 0, none, 5000, 0, some .filled, []⟩] }
    activity := live.activity.set 0 ⟨.rising, 2, 0⟩ }

theorem witness_BlockBoundary :
    (ending .onRecord).boundaryDue = true ∧ (ending .onRecord).beginBoundary.inProgress.isSome = true ∧
      (ending .onRecord).proc.recording = true ∧ (ending .offRecord).proc.recording = false ∧
      (ending .offRecord).boundaryDue = true ∧ (ending .onRecord).ring.gap = none ∧
      (ending .onRecord).ring.blocks.length < 8192 ∧ outspoken.boundaryDue = true ∧
      outspoken.beginBoundary.inProgress = some loudBlock ∧ outspoken.floor.holder = none ∧
      ((outspoken.beginBoundary.updateActivity [5000]).floorDecision [5000]).holder = some 0 := by
  exact ⟨by decide, rfl, rfl, rfl, by decide, rfl, by decide, by decide, by decide +kernel, rfl, by decide +kernel⟩

/-- The Slots and entries that such a ring and Mark List can obtain (R106, R157). -/
theorem filled_slots (n : Nat) (gap : Option PendingGap) (hn : 8190 ≤ n) (h : n ≤ 8192) :
    (filled n gap).obtainableSlots = 8192 - n := by
  have : n = 8190 ∨ n = 8191 ∨ n = 8192 := by omega
  rcases this with rfl | rfl | rfl <;>
    simp [-List.reduceReplicate, filled, State.obtainableSlots, State.permits, Reader.keeps, Reader.binds,
      Reader.attached, follower, Ring.oldest]

theorem filledMarks_entries (n lost : Nat) (hn : 1022 ≤ n) (h : n ≤ 1024) :
    (filledMarks n lost).obtainableEntries = 1024 - n := by
  have : n = 1022 ∨ n = 1023 ∨ n = 1024 := by omega
  rcases this with rfl | rfl | rfl <;>
    simp [-List.reduceReplicate, filledMarks, State.obtainableEntries, State.marksBound, Reader.binds,
      Reader.attached, follower, MarkList.oldest]

/-- Such a ring, and such a Mark List, whose BINDING Reader keeps what stands from `r` on (R105, R157). -/
def keptFrom (n r : Nat) (gap : Option PendingGap) : State :=
  { filled n gap with readers := ⟨{ follower .binding with release := r, read := r }, startReader⟩ }

def marksFrom (n r lost : Nat) : State :=
  { filledMarks n lost with readers := ⟨{ follower .binding with mark := r }, startReader⟩ }

theorem keptFrom_slotKept (n r q : Nat) (gap : Option PendingGap) :
    (keptFrom n r gap).slotKept q ↔ r ≤ q := by
  rw [← not_iff_not, ← State.permits_iff]
  have h : startRing.holds.toList.any (holdKeeps q) = false := rfl
  simp [-List.reduceReplicate, -Vector.any_toList, keptFrom, filled, State.permits, Reader.keeps, Reader.binds,
    Reader.attached, follower, startReader, h]
  exact decide_eq_false_iff_not.trans Nat.not_le

theorem marksFrom_markKept (n r lost q : Nat) : (marksFrom n r lost).markKept q ↔ r ≤ q := by
  rw [← State.marksBound_iff]
  simp [-List.reduceReplicate, marksFrom, State.marksBound, Reader.binds, Reader.attached, follower,
    startReader]
  exact decide_eq_true_iff

/-- Each end of what retention keeps, in a full ring and a full list. -/
theorem witness_retention :
    (∀ n r gap, (keptFrom n r gap).ring.blocks.length = n ∧ (keptFrom n r gap).ring.next = n) ∧
      (keptFrom 8192 0 none).slotKept 0 ∧ ¬(keptFrom 8192 1 none).slotKept 0 ∧
      (keptFrom 8192 1 none).slotKept 1 ∧ ¬(keptFrom 8192 2 none).slotKept 1 ∧
      (∀ n r lost, (marksFrom n r lost).marks.marks.length = n ∧ (marksFrom n r lost).marks.next = n) ∧
      (marksFrom 1024 0 0).markKept 0 ∧ ¬(marksFrom 1024 1 0).markKept 0 ∧
      (marksFrom 1024 1 0).markKept 1 ∧ ¬(marksFrom 1024 2 0).markKept 1 :=
  ⟨fun n r gap => ⟨by simp [-List.reduceReplicate, keptFrom, filled], rfl⟩,
    by simp [keptFrom_slotKept], by simp [keptFrom_slotKept], by simp [keptFrom_slotKept],
    by simp [keptFrom_slotKept], fun n r lost => ⟨by simp [-List.reduceReplicate, marksFrom, filledMarks], rfl⟩,
    by simp [marksFrom_markKept], by simp [marksFrom_markKept], by simp [marksFrom_markKept],
    by simp [marksFrom_markKept]⟩

theorem witness_StoringTable :
    (∀ n gap, (filled n gap).ring.blocks.length = n ∧ (filled n gap).ring.gap = gap) ∧
      ∀ gap, (filled 8190 gap).obtainableSlots = 2 ∧ (filled 8191 gap).obtainableSlots = 1 ∧
        (filled 8192 gap).obtainableSlots = 0 :=
  ⟨fun n gap => ⟨by simp [-List.reduceReplicate, filled], rfl⟩, fun gap =>
    ⟨filled_slots _ gap (by decide) (by decide), filled_slots _ gap (by decide) (by decide),
      filled_slots _ gap (by decide) (by decide)⟩⟩

theorem witness_FreeingReaches :
    (reading .yielding).readers.a.state = .following ∧ (reading .yielding).readers.a.release ≤ 4 ∧
      4 < (reading .yielding).readers.a.read ∧ (reading .binding).readers.a.retention ≠ some .yielding ∧
      ({ follower .yielding with read := 4 } : Reader).read ≤ 4 ∧
      (⟨.a, .yielding, 4, 5⟩ : Hold).first < (⟨.a, .yielding, 4, 5⟩ : Hold).last ∧
      (held .a).ring.holds[(7 : Fin 8)] = some ⟨.a, .binding, 4, 5⟩ ∧ (held .a).ring.lastPlaced.get .a = some 7 ∧
      (held .a).ring.lastPlaced.get .b = none ∧ live.ring.holds[(0 : Fin 8)] = none := by decide

theorem witness_CatchingUp :
    (∀ n r gap, (keptFrom n r gap).live = true ∧ (keptFrom n r gap).stage = .idle ∧
      (keptFrom n r gap).ring.gap = gap ∧ (keptFrom n r gap).proc.state = .closed ∧
      (keptFrom n r gap).ring.blocks.length = n ∧ (keptFrom n r gap).ring.next = n) ∧
      (keptFrom 8192 0 (some oneGap)).slotKept 0 ∧ ¬(keptFrom 8192 1 (some oneGap)).slotKept 0 ∧
      (∀ n r lost, (marksFrom n r lost).live = true ∧ (marksFrom n r lost).stage = .idle ∧
        (marksFrom n r lost).marks.lost = lost ∧ (marksFrom n r lost).marks.marks.length = n ∧
        (marksFrom n r lost).proc.state = .closed) ∧
      (marksFrom 1024 0 1).markKept 0 ∧ ¬(marksFrom 1024 1 1).markKept 0 :=
  ⟨fun n r gap => ⟨rfl, rfl, rfl, rfl, by simp [-List.reduceReplicate, keptFrom, filled], rfl⟩,
    by simp [keptFrom_slotKept], by simp [keptFrom_slotKept],
    fun n r lost => ⟨rfl, rfl, rfl, by simp [-List.reduceReplicate, marksFrom, filledMarks], rfl⟩,
    by simp [marksFrom_markKept], by simp [marksFrom_markKept]⟩

theorem witness_BoundaryState :
    (∀ x next t, (opening x next t).live = true ∧ (opening x next t).stage = .turned next none ∧
      (opening x next t).proc.target = t) ∧
      (opening .offRecord .onRecord (some (.onRecord, .portA))).closesHere = false ∧
      (opening .offRecord .onRecord (some (.onRecord, .portA))).sessionOpen = true ∧
      (floorWaits 2).stage = .turned .onRecord (some (2, some 31, true)) :=
  ⟨fun _ _ _ => ⟨rfl, rfl, rfl⟩, by decide, rfl, rfl⟩

theorem witness_SessionCloses :
    (opening .onRecord .closed (some (.close, .portB))).sessionOpen = true ∧
      (opening .onRecord .closed (some (.close, .portB))).proc.target = some (.close, .portB) ∧
      (opening .onRecord .closed none).proc.target.map Prod.fst ≠ some .close ∧
      4294967295 ≤ ({ startProceedings with periods := 4294967295 } : Proceedings).periods :=
  ⟨rfl, rfl, by decide, by decide⟩

/-- An open boundary with everything waiting. -/
def laden : State :=
  { opening .offRecord .offRecord none with
    plans := { startPlans defaultPlan with armed := some defaultPlan }
    changes := { noChanges with
      gain := noChanges.gain.set 31 (some 1023)
      source := some .house
      margin := some 0 } }

theorem witness_BoundaryTakings :
    laden.closesHere = false ∧ laden.sessionOpen = true ∧ laden.plans.armed = some defaultPlan ∧
      laden.changes.gain[(31 : Fin 32)] ≠ none ∧ laden.changes.source = some .house ∧
      (∀ j : Fin 32, j ≠ 31 → laden.changes.gain[j] = none) ∧ laden.clockUnit.state = .internal ∧
      (clocked laden .internal 48000 0).clockUnit.housePresent = 48000 ∧
      (clocked laden .house 0 0).clockUnit.state ≠ .internal ∧
      (clocked laden .house 0 0).stage = .turned .offRecord none :=
  ⟨by decide, rfl, rfl, by decide, rfl, by decide, rfl, rfl, by decide, rfl⟩

/-- A closing boundary before and after its closing, and a FLOOR Mark that waits to the end. -/
theorem witness_BoundaryTakings_closing :
    (opening .onRecord .closed (some (.close, .portB))).closesHere = true ∧
      (opening .onRecord .closed (some (.close, .portB))).proc.state ≠ .closed ∧
      (opening .onRecord .closed (some (.close, .portB))).inPeriod = false ∧
      ({ laden with proc := startProceedings } : State).proc.state = .closed ∧
      ({ laden with proc := startProceedings } : State).stage = .turned .offRecord none ∧
      (floorWaits 1).live = true ∧ (floorWaits 1).stage = .turned .onRecord (some (1, some 31, true)) ∧
      (floorWaits 1).proc.state ≠ .closed ∧ (floorWaits 1).closesHere = false ∧
      (floorWaits 1).proc.target = none ∧ (floorWaits 1).plans.armed = none ∧
      (∀ k : Fin 32, (floorWaits 1).changes.gain[k] = none) ∧ (floorWaits 1).changes.source = none ∧
      (floorWaits 1).clockUnit.state = .internal ∧ (floorWaits 1).inPeriod = false :=
  ⟨by decide, by decide, rfl, rfl, rfl, rfl, rfl, by decide, by decide, rfl, rfl, by decide, rfl, rfl, rfl⟩

theorem witness_PendingSettingsApply :
    ({ ending .onRecord with changes := laden.changes } : State).boundaryDue = true ∧
      ({ ending .onRecord with changes := laden.changes } : State).settingWaiting = true := by decide

theorem witness_ActivityTable :
    defaultTrackSettings.threshold ≤ 1024 ∧ ¬defaultTrackSettings.threshold ≤ 1023 ∧
      startActivity.state = .quiet ∧ defaultTrackSettings.attack ≤ (⟨.rising, 2, 0⟩ : TrackActivity).attack + 1 ∧
      (⟨.rising, 1, 0⟩ : TrackActivity).attack + 1 < defaultTrackSettings.attack := by decide

/-- Tracks 0 and 1 ACTIVE, with a holder. -/
def speaking (h c : Option (Fin 32)) (n : Nat) : State :=
  { live with
    activity := (live.activity.set 0 ⟨.active, 0, 30⟩).set 1 ⟨.active, 0, 30⟩
    floor := ⟨h, c, n⟩ }

theorem witness_FloorDecision :
    (speaking none none 0).leader [5, 9] none = some 1 ∧ (speaking none none 0).leader [9, 9] none = some 0 ∧
      (speaking (some 0) none 0).leader [5, 9] (some 0) = some 1 ∧
      live.leader [5, 9] none = none ∧ (live.activity[(0 : Fin 32)]).state = .quiet ∧
      ((speaking (some 0) (some 1) 4).floorDecision [0, 2048]).holder = some 1 ∧
      ((speaking (some 0) (some 1) 3).floorDecision [0, 2048]).count = 4 ∧
      ((speaking (some 0) (some 1) 4).floorDecision [0, 2047]).count = 0 := by decide

/-- A Sample Period in the middle of a Block Period whose links have all been heard. -/
def heardAll : State :=
  { session .onRecord none 478 with links := Vector.replicate 8 { startLink with heard := true } }

/-- One Sample Period of each mode: those of HALF and THIRD that form no sample, and the ones that do (R43); a Track
that clips; a state that SAMPLE_PERIOD takes on within a Block Period. -/
theorem witness_TrackPeriods :
    formsSample .half 0 = false ∧ formsSample .half 479 = true ∧ formsSample .third 478 = false ∧
      formsSample .third 479 = true ∧
      ((freshWork ⟨.sum, [0, 1]⟩).take .w16 1023 0 [⟨8388607, .live⟩, ⟨8388607, .filled⟩]).clips = 1 ∧
      ((freshWork ⟨.sum, [0, 1]⟩).take .w16 1023 0 [⟨8388607, .live⟩, ⟨8388607, .filled⟩]).worst = some .filled ∧
      (ending .onRecord).inProgress.isSome = true ∧ (session .onRecord none 480).proc.clock % 480 = 0 ∧
      (session .onRecord none 480).sessionOpen = true ∧ live.sessionOpen = false ∧
      heardAll.live = true ∧ heardAll.stage = .idle ∧ heardAll.inPeriod = true ∧ heardAll.sessionOpen = true ∧
      heardAll.proc.opening = false ∧ heardAll.proc.clock % 480 ≠ 479 ∧
      (∀ i : Fin 8, heardAll.links[i].heard = true) ∧ (∀ l : Line, (heardAll.proc.lines.get l).count ≠ 960) ∧
      heardAll.examineHouse.lossDue = false :=
  ⟨rfl, rfl, rfl, rfl, by decide, by decide, rfl, rfl, rfl, rfl, rfl, rfl, rfl, rfl, rfl, by decide, by decide,
    fun l => by cases l <;> decide, by decide⟩

/-- A period's end at which nothing but the house clock has something to do, and one with a link to fall. -/
theorem witness_SamplePeriods_ended :
    (clocked heardAll .house 0 2 (some false)).clockUnit = ⟨.house, 0, 2, some false⟩ ∧
      (clocked heardAll .house 0 2 (some false)).boundaryDue = false ∧
      (clocked live .fallback 47999 0 (some true)).clockUnit = ⟨.fallback, 47999, 0, some true⟩ ∧
      (clocked live .fallback 47999 0 (some true)).boundaryDue = false ∧
      (clocked (session .onRecord none 479) .house 9 2 (some false)).boundaryDue = true ∧
      (∀ i : Fin 8, (clocked heardAll .house 0 2 (some false)).links[i].heard = true) ∧
      (∀ l : Line, ((clocked heardAll .house 0 2 (some false)).proc.lines.get l).count ≠ 960) ∧
      ((linked (link .slipping 0 47 0 99)).received 0 .absent).state = .down ∧
      ((linked (link .slipping 0 47 0 99)).links[(0 : Fin 8)]).heard = false :=
  ⟨rfl, by decide, rfl, by decide, by decide, by decide, fun l => by cases l <;> decide, by decide +kernel,
    by decide⟩

/-- A Mark List full of Marks that no BINDING Reader keeps, and a YIELDING Reader at its oldest with a transfer of
that Mark in flight. -/
def yieldingMarks : State :=
  { filledMarks 1024 0 with readers :=
    ⟨{ follower .yielding with flight := some ⟨.marks 0 1, [1], .one, 3, none⟩ }, startReader⟩ }

theorem yieldingMarks_entries : yieldingMarks.obtainableEntries = 2 := by
  simp [-List.reduceReplicate, yieldingMarks, filledMarks, State.obtainableEntries, State.marksBound, Reader.binds,
    Reader.attached, follower, MarkList.oldest, startReader]

theorem witness_InsertionTable_freeing :
    yieldingMarks.marks.lost = 0 ∧ yieldingMarks.marks.marks.length = 1024 ∧ yieldingMarks.obtainableEntries = 2 ∧
      yieldingMarks.marks.next = 1024 ∧ yieldingMarks.readers.a.mark = 0 ∧
      yieldingMarks.readers.a.retention = some .yielding ∧ yieldingMarks.readers.a.state = .following ∧
      yieldingMarks.readers.b.state = .detached :=
  ⟨rfl, by simp [-List.reduceReplicate, yieldingMarks, filledMarks], yieldingMarks_entries, rfl, rfl, rfl, rfl, rfl⟩

theorem witness_InsertionTable :
    (∀ n lost, (filledMarks n lost).marks.marks.length = n ∧ (filledMarks n lost).marks.lost = lost) ∧
      (filledMarks 1023 3).marks.firstLost = some 7 ∧
      ∀ lost, (filledMarks 1022 lost).obtainableEntries = 2 ∧ (filledMarks 1023 lost).obtainableEntries = 1 ∧
        (filledMarks 1024 lost).obtainableEntries = 0 :=
  ⟨fun n lost => ⟨by simp [-List.reduceReplicate, filledMarks], rfl⟩, rfl, fun lost =>
    ⟨filledMarks_entries _ lost (by decide) (by decide), filledMarks_entries _ lost (by decide) (by decide),
      filledMarks_entries _ lost (by decide) (by decide)⟩⟩

theorem witness_MarkReferences :
    (session .onRecord none 479).proc.recording = true ∧
      (session .onRecord none 479).ring.blocks = [] ∧ (session .onRecord none 479).ring.gap = none ∧
      (session .sidebar none 5).proc.state = .sidebar ∧ (session .offRecord none 5).proc.recording = false ∧
      take 5 .opened ∈ (reading .yielding).ring.blocks ∧ (take 5 .opened).time ≤ 2400 ∧
      2879 ≤ (take 5 .opened).spanEnd ∧
      (filled 0 (some { oneGap with restricted := true })).ring.gap = some { oneGap with restricted := true } ∧
      ({ oneGap with restricted := true } : PendingGap).spanEnd < 480 ∧
      (opening .onRecord .sidebar none).stage = .turned .sidebar none ∧
      (opening .sidebar .onRecord none).stage = .turned .onRecord none := by
  decide

/-! ### Witnesses: the invariants -/

theorem witness_RecordKept : live.recordWf ∧ ∃ t, step live = .next t := by
  refine ⟨⟨⟨by decide, by decide, rfl⟩, ⟨by decide, by decide, rfl⟩, ⟨nofun, nofun⟩, ⟨nofun, nofun⟩, ?_, ?_⟩,
    _, rfl⟩
  · intro e
    have h : live.ring.holds[e] = none := by
      show (Vector.replicate 8 none)[e] = none
      simp
    rw [h]
    trivial
  · intro p e h
    cases p <;> exact nomatch h

theorem witness_SamplesKept : live.samplesWf ∧ ∃ t, step live = .next t := ⟨⟨nofun, nofun⟩, _, rfl⟩

theorem witness_FloorAndProceedingsKept : live.floorWf ∧ live.procWf ∧ ∃ t, step live = .next t :=
  ⟨⟨nofun, fun _ => rfl⟩, ⟨fun _ => ⟨rfl, rfl, rfl⟩, nofun, by decide, nofun, nofun, nofun⟩, _, rfl⟩

theorem witness_SettingsKept : live.settingsWf ∧ ∃ t, step live = .next t := by
  refine ⟨⟨by decide, by decide, nofun, ?_, ?_, nofun, nofun⟩, _, rfl⟩
  · intro k v h
    have : noChanges.gain[k] = none := by
      show (Vector.replicate 32 none)[k] = none
      simp
    exact nomatch this.symm.trans h
  · intro k
    have : noChanges.track[k] = ⟨none, none, none, none⟩ := by
      show (Vector.replicate 32 (⟨none, none, none, none⟩ : PendingTrack))[k] = _
      simp
    show (noChanges.track[k]).inRange
    rw [this]
    exact ⟨nofun, nofun, nofun⟩

end Sys2Proof.Tests
end

section
/-! Power on, power lost and the RESET line. -/

namespace Sys2Proof.Machine

/-! ### Power (R194, R195) -/

theorem exec_powerOn (s : State) : exec .powerOn s = .next s.applyPower := rfl

theorem exec_powerLoss (h : ImageHalf) (s : State) : exec (.powerLoss h) s = .next (s.losePower h) := rfl

theorem Image.isFixed_iff (x : Image) :
    x.isFixed = true ↔ x.guarded.checkMatches = true ∧ x.guarded.content.mode = .fixed := by
  simp [Image.isFixed]

theorem State.imageLeft_idle (s : State) (h : ImageHalf) (hs : s.store = none) : s.imageLeft h = s.image := by
  simp [State.imageLeft, hs]

/-- A store cut off before its general part was complete breaks that part alone (R192, R194). -/
theorem Image.afterLoss_broken (x : Image) (job : StoreJob) (h : ImageHalf)
    (hb : h = .general ∨ x.isFixed = true) :
    x.afterLoss job h = { x with general := x.general.broken } := by
  cases h with
  | general => rfl
  | guarded => simp [Image.afterLoss, hb.resolve_left nofun]

/-- A store cut off in its guarded part has written the general one (R192, R194). -/
theorem Image.afterLoss_guarded (x : Image) (job : StoreJob) (hf : ¬x.isFixed = true) :
    x.afterLoss job .guarded = ⟨⟨true, true, job.general⟩, x.guarded.broken⟩ := by
  simp [Image.afterLoss, hf, Image.withGeneral]

theorem State.attention_not_running (s : State) (p : Port) (h : s.power ≠ .running) :
    s.attention p = false := by
  unfold State.attention
  cases hp : s.power with
  | running => exact absurd hp h
  | loading => rfl
  | off => rfl

theorem State.sourceInUse_not_live (s : State) (h : s.live = false) : s.sourceInUse = .internal := by
  simp [State.sourceInUse, h]

/-- Settles O32: both rows put the part into `State.powered`, with the Image that `Image.afterLoss` leaves. -/
theorem powerOnAndLoss : Obligations.PowerOnAndLoss := by
  unfold Obligations.PowerOnAndLoss
  intro started images
  have hstart : ∀ (s : State) (x : Image) (pw : Power), pw ≠ .running →
      started s { State.powered x with pending := s.pending, power := pw, resetLine := s.resetLine } := by
    intro s x pw hpw
    have hlive : State.live { State.powered x with
        pending := s.pending, power := pw, resetLine := s.resetLine } = false := by
      simpa [State.live_iff, ← Bool.not_eq_true] using fun h => absurd h hpw
    refine ⟨rfl, rfl, rfl, rfl, rfl, rfl, ?_, rfl, State.sourceInUse_not_live _ hlive, rfl, rfl, rfl, ?_,
      rfl, rfl, rfl, rfl, rfl, rfl, ?_⟩
    · intro i; simp [State.powered]
    · intro k; simp [State.powered, startActivity]
    · intro p
      exact ⟨Both.get_same _ p, Both.get_same _ p, Both.get_same _ p, State.attention_not_running _ p hpw⟩
  have himage : ∀ (h : ImageHalf) (s t : State), t.image = s.imageLeft h → images h s t := by
    intro h s t ht
    refine ⟨fun hs => ht.trans (s.imageLeft_idle h hs), fun job hj => ?_⟩
    have hl : t.image = s.image.afterLoss job h := by simpa [State.imageLeft, hj] using ht
    rw [hl]
    refine ⟨fun hb => ?_, fun hg hf => ?_⟩
    · rw [Image.afterLoss_broken _ _ _ (hb.imp id s.image.isFixed_iff.2)]
      exact ⟨rfl, rfl⟩
    · rw [hg, Image.afterLoss_guarded _ _ fun hx => hf (s.image.isFixed_iff.1 hx)]
      exact ⟨rfl, rfl⟩
  refine ⟨fun s => ⟨_, exec_powerOn s, rfl, hstart s _ .loading nofun, himage .general s _ rfl⟩,
    fun s hs => ?_, fun h s => ⟨_, exec_powerLoss h s, rfl, hstart s _ .off nofun, himage h s _ rfl⟩⟩
  rw [exec_powerOn, State.applyPower, State.imageLeft_idle s _ hs]

/-! ### The RESET line (R149, R175, R196) -/

theorem exec_resetAssert (s : State) :
    exec .resetAssert s = .next (if s.resetLine then s else s.assertReset) := rfl

theorem exec_resetRelease (s : State) :
    exec .resetRelease s = .next (if s.resetLine then s.releaseReset else s) := rfl

theorem exec_settingsLoadComplete (s : State) : exec .settingsLoadComplete s =
    .next (if s.power = .loading ∧ s.resetLine = false then s.completeLoad else s) := rfl

theorem exec_readBlockEnd (p : Port) (more : Nat) (s : State) :
    exec (.readBlockEnd p more) s = .next (s.riseOf p true more) := rfl

theorem exec_readMarksEnd (p : Port) (more : Nat) (s : State) :
    exec (.readMarksEnd p more) s = .next (s.riseOf p false more) := rfl

theorem State.finishBoundary_idle (s : State) (h : s.stage = .idle) : s.finishBoundary = s := by
  simp [State.finishBoundary, h]

theorem State.assertReset_eq (s : State)
    (h : s.power = .running ∧ s.stage = .idle ∨ s.power = .loading) : s.assertReset = s.underReset := by
  unfold State.assertReset
  obtain ⟨hp, hs⟩ | hp := h
  · rw [hp]
    exact congrArg State.underReset (s.finishBoundary_idle hs)
  · rw [hp]

/-- A Client Port under RESET: as after power-on, but for its record of what went out (R149, R180). -/
theorem State.underReset_port (s : State) (p : Port) : s.underReset.ports.get p = s.portUnderReset p := by
  cases p <;> rfl

theorem State.portUnderReset_fresh (s : State) (p : Port) :
    (s.portUnderReset p).result = .ok ∧ (s.portUnderReset p).latch = false := by
  unfold State.portUnderReset
  split <;> exact ⟨rfl, rfl⟩

theorem State.portUnderReset_idle (s : State) (p : Port) (h : (s.readers.get p).flight = none) :
    s.portUnderReset p = { startPort with
      out := (s.ports.get p).out, part := (s.ports.get p).part, ended := (s.ports.get p).ended } := by
  simp [State.portUnderReset, h]

theorem State.portUnderReset_flight (s : State) (p : Port) (x : Transfer)
    (h : (s.readers.get p).flight = some x) :
    s.portUnderReset p = { startPort with
      out := (s.ports.get p).out ++ x.dataOut, part := x.partOut, ended := some x } := by
  simp [State.portUnderReset, h]

theorem startClock_eq (x : ClockSource) :
    startClock x = ⟨if x = .house then .house else .internal, 0, 0, none⟩ := by
  cases x <;> rfl

theorem State.attention_resetLine (s : State) (p : Port) (h : s.resetLine = true) :
    s.attention p = false := by
  unfold State.attention
  split <;> simp [h]

theorem State.completeLoad_loads (s : State) :
    s.completeLoad.power = .running ∧ s.completeLoad.settings = s.image.loaded ∧
      s.completeLoad.plans = startPlans s.image.loaded.general.plan := by
  unfold State.completeLoad
  dsimp only
  split <;> exact ⟨rfl, rfl, rfl⟩

/-- Bits of a byte of which RESET lets only the first go out (R175). -/
theorem joinBits_zero_bit (sent m : Nat) (v : Byte) (hm : m < 8) :
    (joinBits sent v 0).getLsbD (7 - m) = (decide (m < sent) && v.getLsbD (7 - m)) := by
  have hmask : ∀ i, (0xFF#8).getLsbD i = decide (i < 8) := fun i => by
    rw [show 0xFF#8 = BitVec.allOnes 8 from rfl, BitVec.getLsbD_allOnes]
  have hout : decide (sent + (7 - m) < 8) = !decide (m < sent) := by
    rw [← decide_not, decide_eq_decide]
    omega
  simp only [joinBits, BitVec.getLsbD_or, BitVec.getLsbD_and, BitVec.getLsbD_not,
    BitVec.getLsbD_ushiftRight, hmask, hout, BitVec.ofNat_eq_ofNat, BitVec.getLsbD_zero, Bool.not_not,
    Bool.false_and, Bool.or_false, show 7 - m < 8 by omega, decide_true, Bool.true_and, Bool.and_comm]

theorem partLength_lt (w : LaneWidth) (edges : Nat) : partLength w edges < 8 := by
  cases w <;> simp only [partLength, LaneWidth.edgesPerByte, LaneWidth.bitsPerEdge] <;> omega

/-- The whole bytes that go out of a transfer that RESET has ended, over `more` edges from the assertion (R175). -/
def Transfer.outAfterReset (x : Transfer) (more : Nat) : List (Option Byte) :=
  ({ x with edges := x.edges + more }.dataOut.drop (x.bytesOf x.edges)).mapIdx
    (cutByte (partLength x.lanes x.edges))

/-- The part byte's bits that go out of such a transfer at its rise (R175). -/
def Transfer.partAfterReset (x : Transfer) (more : Nat) : List (Option Bool) :=
  { x with edges := x.edges + more }.partOut.mapIdx fun i =>
    cutBit (partLength x.lanes x.edges) (8 * (x.outAfterReset more).length + i)

/-- The rise of such a transfer's Frame, by its row (R149, R175). -/
theorem State.riseOf_ended (s : State) (p : Port) (ofBlock : Bool) (more : Nat) (x : Transfer)
    (he : (s.ports.get p).ended = some x) (hf : (s.readers.get p).flight = none)
    (hk : x.delivery.isBlock = ofBlock) :
    s.riseOf p ofBlock more =
      s.setOut p ((s.ports.get p).out ++ x.outAfterReset more) (x.partAfterReset more) := by
  have hflight : s.inFlight p ofBlock = false := by simp [State.inFlight, hf]
  simp [State.riseOf, hflight, State.riseEnded, he, hk, Transfer.partAfterReset, Transfer.outAfterReset,
    Transfer.bytesOf]

theorem Transfer.outAfterReset_length (x : Transfer) (more : Nat) :
    (x.outAfterReset more).length = x.bytesOf (x.edges + more) - x.bytesOf x.edges := by
  simp [Transfer.outAfterReset, Transfer.dataOut, Transfer.bytesOf]

theorem Transfer.partAfterReset_length (x : Transfer) (more : Nat) :
    (x.partAfterReset more).length = partLength x.lanes (x.edges + more) := by
  simp [Transfer.partAfterReset, Transfer.partOut, leadingBits]

/-- What goes out of the byte in which RESET is asserted, and 00H after it (R175). -/
theorem Transfer.outAfterReset_bits (x : Transfer) (more n : Nat) (hn : n < (x.outAfterReset more).length) :
    ∃ v : Byte, (x.outAfterReset more)[n]? = some (some v) ∧ ∀ m < 8, v.getLsbD (7 - m) =
      (decide (n = 0 ∧ m < partLength x.lanes x.edges) &&
        (x.byteOut (x.bytesOf x.edges)).getLsbD (7 - m)) := by
  have hbits := partLength_lt x.lanes x.edges
  have hlen := hn
  rw [x.outAfterReset_length] at hlen
  have hbyte : (x.outAfterReset more)[n]? =
      some (cutByte (partLength x.lanes x.edges) n (some (x.byteOut (x.bytesOf x.edges + n)))) := by
    have hi : x.bytesOf x.edges + n < x.bytesOf (x.edges + more) := by omega
    simp only [Transfer.bytesOf] at hi
    simp [Transfer.outAfterReset, Transfer.dataOut, Transfer.bytesOf, hi]
    rfl
  rw [hbyte]
  have hwhole : ¬8 * (n + 1) ≤ partLength x.lanes x.edges := by omega
  by_cases hz : partLength x.lanes x.edges ≤ 8 * n
  · refine ⟨0, by simp [cutByte, hwhole, hz], fun m hm => ?_⟩
    have hno : ¬(n = 0 ∧ m < partLength x.lanes x.edges) := by omega
    simp [hno]
  · have hn0 : n = 0 := by omega
    subst hn0
    refine ⟨_, by rw [cutByte, if_neg hwhole, if_neg hz]; rfl, fun m hm => ?_⟩
    simpa using joinBits_zero_bit (partLength x.lanes x.edges) m _ hm

theorem Transfer.partAfterReset_bits (x : Transfer) (more m : Nat) (hm : m < (x.partAfterReset more).length) :
    (x.partAfterReset more)[m]? = some (some
      (decide ((x.outAfterReset more).length = 0 ∧ m < partLength x.lanes x.edges) &&
        (x.byteOut (x.bytesOf x.edges)).getLsbD (7 - m))) := by
  have hbits := partLength_lt x.lanes x.edges
  have hlen := hm
  rw [x.partAfterReset_length] at hlen
  have hbit : (x.partAfterReset more)[m]? = some (cutBit (partLength x.lanes x.edges)
      (8 * (x.outAfterReset more).length + m)
      (some ((x.byteOut (x.bytesOf (x.edges + more))).getLsbD (7 - m)))) := by
    simp [Transfer.partAfterReset, Transfer.partOut, leadingBits, hlen]
    rfl
  rw [hbit]
  by_cases h0 : (x.outAfterReset more).length = 0 ∧ m < partLength x.lanes x.edges
  · obtain ⟨hl, hin⟩ := h0
    have hsame : x.bytesOf (x.edges + more) = x.bytesOf x.edges := by
      have hle : x.bytesOf x.edges ≤ x.bytesOf (x.edges + more) := Nat.div_le_div_right (by omega)
      rw [x.outAfterReset_length] at hl
      omega
    simp [cutBit, hl, hin, hsame]
  · have hout : ¬8 * (x.outAfterReset more).length + m < partLength x.lanes x.edges := by omega
    rw [cutBit, if_neg hout, decide_eq_false h0, Bool.false_and]

/-- The settings that no pending value reaches (R196). -/
theorem Settings.applying_keeps (w : Settings) (c : PendingChanges) :
    (w.applying c).guarded = w.guarded ∧ (w.applying c).general.plan = w.general.plan ∧
      (w.applying c).general.fill = w.general.fill ∧
      (w.applying c).general.linkEnable = w.general.linkEnable ∧
      (w.applying c).general.timing = w.general.timing := by
  simp [Settings.applying]

/-- Settles O34: `State.underReset` field by field, and what the Frame of a transfer that ends there shifts out. -/
theorem resetLine : Obligations.ResetLine := by
  unfold Obligations.ResetLine
  refine ⟨fun s hp hr => ?_, fun s hr => ?_, fun s hr => ?_, fun s hr hp => ?_, fun p more x s he hf => ?_⟩
  · intro g source
    obtain ⟨hguard, hplan, hfill, hlink, htime⟩ := s.settings.applying_keeps s.changes
    refine ⟨s.underReset, by rw [exec_resetAssert, hr, ← s.assertReset_eq hp]; rfl, rfl, rfl, rfl, rfl, rfl,
      rfl, rfl, rfl, rfl, rfl, rfl, rfl, ?_, startClock_eq _, ?_,
      congrArg startPlans hplan, rfl, hguard, hplan, hfill, hlink, htime, ?_, ?_, rfl,
      rfl, rfl, ?_, ?_, rfl⟩
    · intro k; simp [State.underReset, startActivity]
    · exact State.sourceInUse_not_live _ (by simp [State.live, State.underReset]; split <;> rfl)
    · intro k; simp [State.underReset, Settings.applying, g]
    · intro k; simp [State.underReset, Settings.applying, TrackSettings.taking, g]
    · intro i; simp [State.underReset]
    · intro p
      obtain ⟨hres, hlatch⟩ := s.portUnderReset_fresh p
      rw [s.underReset_port p]
      refine ⟨Both.get_same _ p, hres, hlatch, Both.get_same _ p, State.attention_resetLine _ p rfl,
        fun hf => ?_, fun x hx => ?_⟩
      · rw [s.portUnderReset_idle p hf]
        exact ⟨rfl, rfl, rfl⟩
      · rw [s.portUnderReset_flight p x hx]
        exact ⟨rfl, rfl, rfl⟩
  · simp [exec_settingsLoadComplete, exec_resetAssert, hr]
  · exact ⟨s.releaseReset, by rw [exec_resetRelease, if_pos hr], rfl, rfl, rfl⟩
  · obtain ⟨hpw, hset, hpl⟩ := s.releaseReset.completeLoad_loads
    exact ⟨s.releaseReset, s.releaseReset.completeLoad, by rw [exec_resetRelease, if_pos hr],
      by rw [exec_settingsLoadComplete, if_pos ⟨hp, rfl⟩], hp, rfl, hpw, hset, hpl⟩
  · intro whole bits total own
    refine ⟨x.outAfterReset more, x.partAfterReset more, fun hb => ?_, fun first count hm => ?_,
      x.outAfterReset_length more, x.partAfterReset_length more, x.outAfterReset_bits more,
      x.partAfterReset_bits more⟩
    · have hk : x.delivery.isBlock = true := by
        cases hd : x.delivery with
        | block q => rfl
        | emptyReply => rfl
        | marks first count => exact absurd hd (hb first count)
      rw [exec_readBlockEnd, s.riseOf_ended p true more x he hf hk]
    · rw [exec_readMarksEnd, s.riseOf_ended p false more x he hf (by rw [hm]; rfl)]

end Sys2Proof.Machine
end

section
/-! The Link Receivers: when a frame is good, the frame period of each link state, what a link delivers, and the
rows that carry a frame (sections 1.2 to 1.4). -/

namespace Sys2Proof.Machine

/-! ### The judgement of a frame (R1, R3, R4) -/

theorem framed_eq_some (x : LinkInput) (bits : List Bool) :
    framed x = some bits ↔ x = .started bits ∧ syncFound bits = true := by
  cases x with
  | absent => simp [framed]
  | started bs =>
    by_cases h : syncFound bs = true
    · simp only [framed, h, if_true, Option.some.injEq, LinkInput.started.injEq]
      exact ⟨fun e => ⟨e, e ▸ h⟩, And.left⟩
    · simp only [framed, h, if_false, LinkInput.started.injEq, reduceCtorEq, false_iff]
      rintro ⟨rfl, hs⟩
      exact h hs

theorem framed_isSome (x : LinkInput) :
    (framed x).isSome = true ↔ ∃ bits, x = .started bits ∧ syncFound bits = true := by
  simp [Option.isSome_iff_exists, framed_eq_some]

theorem Link.judge_framed (l : Link) {x : LinkInput} {bits : List Bool} (h : framed x = some bits) :
    l.judge x = l.good bits := by
  simp [Link.judge, h]

theorem Link.good_iff (l : Link) (bits : List Bool) : l.good bits = true ↔ syncFound bits = true ∧
    checkMatches bits = true ∧ (frameCount bits = l.expected ∨ l.state = .seeking ∧ l.goodRun = 0) := by
  simp [Link.good, and_assoc]

theorem Link.judge_iff (l : Link) (x : LinkInput) : l.judge x = true ↔ ∃ bits, x = .started bits ∧
    syncFound bits = true ∧ checkMatches bits = true ∧
      (frameCount bits = l.expected ∨ l.state = .seeking ∧ l.goodRun = 0) := by
  have h : l.judge x = true ↔ ∃ bits, framed x = some bits ∧ l.good bits = true := by
    unfold Link.judge
    cases framed x <;> simp
  simp only [h, framed_eq_some, Link.good_iff]
  exact exists_congr fun bits => ⟨fun ⟨⟨hx, hs⟩, _, hg⟩ => ⟨hx, hs, hg⟩,
    fun ⟨hx, hs, hg⟩ => ⟨⟨hx, hs⟩, hs, hg⟩⟩

/-- After a bad frame, a missing one among them, the expected count is one more than it was (R3). -/
theorem Link.nextExpected_bad (l : Link) (x : LinkInput) (h : l.judge x = false) :
    l.nextExpected x = l.expected + 1 := by
  unfold Link.nextExpected
  cases hx : framed x with
  | none => rfl
  | some bits => simp [← l.judge_framed hx, h]

theorem Link.nextExpected_good (l : Link) (bits : List Bool) (h : l.judge (.started bits) = true) :
    l.nextExpected (.started bits) = frameCount bits + 1 := by
  obtain ⟨_, hb, hs, _⟩ := (l.judge_iff _).1 h
  cases hb
  have hx := (framed_eq_some (.started bits) bits).2 ⟨rfl, hs⟩
  simp [Link.nextExpected, hx, ← l.judge_framed hx, h]

theorem countTo_eq_min (limit n : Nat) (h : n ≤ limit) : countTo limit n = min limit (n + 1) := by
  unfold countTo
  split <;> omega

/-! ### A frame period in each state (R5 to R8) -/

/-- The consecutive-good count that a period leaves stays below a lock's where the frame is bad or the run short. -/
theorem Link.goodRun_below (l : Link) (x : LinkInput) (n : Nat) (h : l.judge x = false ∨ l.goodRun < n) :
    ¬(if l.judge x then l.goodRun + 1 else 0) ≥ n + 1 := by
  obtain hb | hr := h
  · simp [hb]
  · split <;> omega

theorem Link.seekingStep_lock (l : Link) (x : LinkInput) (hg : l.judge x = true) (hr : 15 ≤ l.goodRun) :
    l.seekingStep x = { l.counted x with
      state := .locked, goodRun := l.goodRun + 1, withoutGood := 0, seekStay := 0 } := by
  simp [Link.seekingStep, hg, hr]

theorem Link.seekingStep_timeout (l : Link) (x : LinkInput) (hr : l.judge x = false ∨ l.goodRun < 15)
    (hs : 479 ≤ l.seekStay) :
    l.seekingStep x = { l.counted x with state := .down, goodRun := 0, seekStay := 0 } := by
  simp only [Link.seekingStep, l.goodRun_below x 15 hr, if_false]
  rw [if_pos (by omega)]

theorem Link.seekingStep_stay (l : Link) (x : LinkInput) (hr : l.judge x = false ∨ l.goodRun < 15)
    (hs : l.seekStay < 479) :
    l.seekingStep x = { l.counted x with
      goodRun := if l.judge x then l.goodRun + 1 else 0, seekStay := l.seekStay + 1 } := by
  simp only [Link.seekingStep, l.goodRun_below x 15 hr, if_false]
  rw [if_neg (by omega)]

theorem Link.lockedStep_good (l : Link) (x : LinkInput) (hg : l.judge x = true) :
    l.lockedStep x = { l.counted x with withoutGood := 0 } := by
  simp [Link.lockedStep, hg]

theorem Link.lockedStep_bad (l : Link) (x : LinkInput) (hg : l.judge x = false) :
    l.lockedStep x = { l.counted x with state := .slipping, withoutGood := 1, slipStay := 1, goodRun := 0 } := by
  simp [Link.lockedStep, hg]

theorem Link.slippingStep_lock (l : Link) (x : LinkInput) (hg : l.judge x = true) (hr : 3 ≤ l.goodRun) :
    l.slippingStep x = { l.counted x with state := .locked, withoutGood := 0, goodRun := 0, slipStay := 0 } := by
  simp [Link.slippingStep, hg, hr]

/-- A SLIPPING link goes DOWN at 48 periods without a good frame or a stay of 4800 (R8). -/
theorem Link.slippingStep_fall (l : Link) (x : LinkInput) (hr : l.judge x = false ∨ l.goodRun < 3)
    (h : l.judge x = false ∧ 47 ≤ l.withoutGood ∨ 4799 ≤ l.slipStay) :
    l.slippingStep x = { l.counted x with
      state := .down, goodRun := 0, withoutGood := 0, seekStay := 0, slipStay := 0 } := by
  have hfall : (if l.judge x then 0 else l.withoutGood + 1) ≥ 48 ∨ l.slipStay + 1 ≥ 4800 := by
    obtain ⟨hb, hw⟩ | hs := h
    · exact .inl (by simp [hb, hw])
    · exact .inr (by omega)
  simp only [Link.slippingStep, l.goodRun_below x 3 hr, if_false]
  rw [if_pos hfall]

theorem Link.slippingStep_stay (l : Link) (x : LinkInput) (hr : l.judge x = false ∨ l.goodRun < 3)
    (hw : l.judge x = false → l.withoutGood < 47) (hs : l.slipStay < 4799) :
    l.slippingStep x = { l.counted x with
      goodRun := if l.judge x then l.goodRun + 1 else 0
      withoutGood := if l.judge x then 0 else l.withoutGood + 1
      slipStay := l.slipStay + 1 } := by
  have hstay : ¬((if l.judge x then 0 else l.withoutGood + 1) ≥ 48 ∨ l.slipStay + 1 ≥ 4800) := by
    cases hg : l.judge x
    · have := hw hg
      simp
      omega
    · simp
      omega
  simp only [Link.slippingStep, l.goodRun_below x 3 hr, if_false]
  rw [if_neg hstay]

/-! ### The frame period of a link (R5, R10) -/

theorem Link.framePeriod_seeking (l : Link) (enabled : Bool) (x : LinkInput) (h : l.state = .seeking) :
    l.framePeriod enabled x = l.seekingStep x := by
  simp [Link.framePeriod, h]

theorem Link.framePeriod_locked (l : Link) (enabled : Bool) (x : LinkInput) (h : l.state = .locked) :
    l.framePeriod enabled x = l.lockedStep x := by
  simp [Link.framePeriod, h]

theorem Link.framePeriod_slipping (l : Link) (enabled : Bool) (x : LinkInput) (h : l.state = .slipping) :
    l.framePeriod enabled x = l.slippingStep x := by
  simp [Link.framePeriod, h]

theorem Link.framePeriod_down_stays (l : Link) (enabled : Bool) (x : LinkInput) (h : l.state = .down)
    (hx : enabled = false ∨ ¬∃ bits, x = .started bits ∧ syncFound bits = true) :
    l.framePeriod enabled x = l := by
  rw [← framed_isSome] at hx
  have hno : (enabled && (framed x).isSome) = false := by
    rw [Bool.and_eq_false_iff]
    exact hx.imp_right fun h => by simpa using h
  simp [Link.framePeriod, h, hno]

/-- A DOWN link that finds the sync pattern judges that frame at once as the first of SEEKING, where the count test
is skipped (R3, R5, R6). -/
theorem Link.framePeriod_down_enters (l : Link) (bits : List Bool) (h : l.state = .down)
    (hs : syncFound bits = true) :
    l.framePeriod true (.started bits) = { l with
      state := .seeking
      seekStay := 1
      goodRun := if checkMatches bits then 1 else 0
      expected := if checkMatches bits then frameCount bits + 1 else l.expected + 1
      badFrames := if checkMatches bits then l.badFrames else countTo 65535 l.badFrames } := by
  have hx := (framed_eq_some (.started bits) bits).2 ⟨rfl, hs⟩
  have hj : Link.judge { l with state := .seeking, goodRun := 0, seekStay := 0 } (.started bits) =
      checkMatches bits := by
    simp [Link.judge_framed _ hx, Link.good, hs]
  have he : Link.framePeriod true (.started bits) l =
      Link.seekingStep { l with state := .seeking, goodRun := 0, seekStay := 0 } (.started bits) := by
    simp [Link.framePeriod, h, hx]
  rw [he, Link.seekingStep_stay _ _ (.inr (by simp)) (by simp), Link.counted, hj]
  cases hc : checkMatches bits with
  | false => rw [Link.nextExpected_bad _ _ (hj.trans hc)]; rfl
  | true => rw [Link.nextExpected_good _ _ (hj.trans hc)]; rfl

/-- A judged period changes a link's state and counts, its expected count and bad-frame counter as every judgement
does (R3, R4). -/
theorem Link.framePeriod_judged (l : Link) (enabled : Bool) (x : LinkInput) (h : l.state ≠ .down) :
    ∃ state run without seek slip, l.framePeriod enabled x = { l.counted x with
      state := state, goodRun := run, withoutGood := without, seekStay := seek, slipStay := slip } := by
  cases hs : l.state with
  | down => exact absurd hs h
  | seeking =>
    rw [l.framePeriod_seeking enabled x hs]
    unfold Link.seekingStep
    dsimp only
    repeat' split
    all_goals exact ⟨_, _, _, _, _, rfl⟩
  | locked =>
    rw [l.framePeriod_locked enabled x hs]
    unfold Link.lockedStep
    dsimp only
    split <;> exact ⟨_, _, _, _, _, rfl⟩
  | slipping =>
    rw [l.framePeriod_slipping enabled x hs]
    unfold Link.slippingStep
    dsimp only
    repeat' split
    all_goals exact ⟨_, _, _, _, _, rfl⟩

/-- A frame period leaves what was delivered to the delivery (R11). -/
theorem Link.framePeriod_keeps (l : Link) (enabled : Bool) (x : LinkInput) :
    (l.framePeriod enabled x).hold = l.hold ∧ (l.framePeriod enabled x).out = l.out ∧
      (l.framePeriod enabled x).heard = l.heard := by
  by_cases h : l.state = .down
  · by_cases hx : enabled = false ∨ ¬∃ bits, x = .started bits ∧ syncFound bits = true
    · rw [l.framePeriod_down_stays enabled x h hx]
      exact ⟨rfl, rfl, rfl⟩
    · obtain ⟨he, hx⟩ := not_or.1 hx
      obtain ⟨bits, rfl, hs⟩ := not_not.1 hx
      rw [Bool.not_eq_false] at he
      rw [he, l.framePeriod_down_enters bits h hs]
      exact ⟨rfl, rfl, rfl⟩
  · obtain ⟨_, _, _, _, _, he⟩ := l.framePeriod_judged enabled x h
    rw [he]
    exact ⟨rfl, rfl, rfl⟩

/-- A fall from SLIPPING clears every count (R8). -/
theorem Link.slippingStep_down_clears (l : Link) (x : LinkInput) (h : l.state = .slipping)
    (hd : (l.slippingStep x).state = .down) : (l.slippingStep x).goodRun = 0 ∧
      (l.slippingStep x).withoutGood = 0 ∧ (l.slippingStep x).seekStay = 0 ∧ (l.slippingStep x).slipStay = 0 := by
  by_cases hr : l.judge x = false ∨ l.goodRun < 3
  · by_cases hf : l.judge x = false ∧ 47 ≤ l.withoutGood ∨ 4799 ≤ l.slipStay
    · rw [l.slippingStep_fall x hr hf]
      exact ⟨rfl, rfl, rfl, rfl⟩
    · obtain ⟨hw, hs⟩ := not_or.1 hf
      have hstay := l.slippingStep_stay x hr (fun hb => Nat.not_le.1 fun hle => hw ⟨hb, hle⟩) (Nat.not_le.1 hs)
      exact absurd (h.symm.trans ((congrArg Link.state hstay).symm.trans hd)) nofun
  · obtain ⟨hg, hrun⟩ := not_or.1 hr
    have hlock := l.slippingStep_lock x (by simpa using hg) (Nat.not_lt.1 hrun)
    exact absurd ((congrArg Link.state hlock).symm.trans hd) nofun

/-- Settles O37, state by state. -/
theorem linkStates : Obligations.LinkStates := by
  unfold Obligations.LinkStates
  refine ⟨Link.judge_iff, ?_⟩
  intro l x enabled t good sync
  have hseek := l.framePeriod_seeking enabled x
  have hlock := l.framePeriod_locked enabled x
  have hslip := l.framePeriod_slipping enabled x
  refine ⟨l.framePeriod_down_stays enabled x, ?_, fun h => ?_, fun h hg hr => ?_, fun h hr hs => ?_,
    fun h hr hs => ?_, fun h hg => ?_, fun h hg => ?_, fun h hg hr => ?_, fun h hg hr hs => ?_,
    fun h hg hr hs => ?_, fun h hg hf => ?_, fun h hg hw hs => ?_, fun h hd => ?_, fun h hb => ?_,
    l.framePeriod_keeps enabled x⟩
  · rintro bits h rfl rfl hs
    exact l.framePeriod_down_enters bits h hs
  · obtain ⟨_, _, _, _, _, he⟩ := l.framePeriod_judged enabled x h
    have hexp : t.expected = l.nextExpected x := congrArg Link.expected he
    refine ⟨fun hb => hexp.trans (l.nextExpected_bad x hb), ?_⟩
    rintro bits hg rfl
    exact hexp.trans (l.nextExpected_good bits hg)
  · have he : t = _ := (hseek h).trans (l.seekingStep_lock x hg hr)
    rw [he]
    exact ⟨rfl, rfl, rfl⟩
  · have he : t = _ := (hseek h).trans (l.seekingStep_timeout x hr hs)
    rw [he]
    exact ⟨rfl, rfl, rfl⟩
  · have he : t = _ := (hseek h).trans (l.seekingStep_stay x hr hs)
    rw [he]
    exact ⟨h, rfl, rfl⟩
  · have he : t = _ := (hlock h).trans (l.lockedStep_good x hg)
    rw [he]
    exact ⟨h, rfl⟩
  · have he : t = _ := (hlock h).trans (l.lockedStep_bad x hg)
    rw [he]
    exact ⟨rfl, rfl, rfl, rfl⟩
  · have he : t = _ := (hslip h).trans (l.slippingStep_lock x hg hr)
    rw [he]
    exact ⟨rfl, rfl, rfl, rfl⟩
  · have he : t = _ := (hslip h).trans (l.slippingStep_fall x (.inr hr) (.inr hs))
    rw [he]
  · have he : t = _ := (hslip h).trans
      (l.slippingStep_stay x (.inr hr) (fun hb => absurd (hg.symm.trans hb) nofun) hs)
    rw [he]
    exact ⟨h, if_pos hg, if_pos hg, rfl⟩
  · have he : t = _ := (hslip h).trans (l.slippingStep_fall x (.inl hg) (hf.imp_left fun hw => ⟨hg, hw⟩))
    rw [he]
  · have he : t = _ := (hslip h).trans (l.slippingStep_stay x (.inl hg) (fun _ => hw) hs)
    have hno : ¬l.judge x = true := by simpa using hg
    rw [he]
    exact ⟨h, if_neg hno, if_neg hno, rfl⟩
  · have he : t = _ := hslip h
    rw [he] at hd ⊢
    exact l.slippingStep_down_clears x h hd
  · obtain ⟨_, _, _, _, _, he⟩ := l.framePeriod_judged enabled x h
    have hcount : t.badFrames = if l.judge x then l.badFrames else countTo 65535 l.badFrames :=
      congrArg Link.badFrames he
    rw [hcount, countTo_eq_min _ _ hb]

/-! ### What a link delivers (R11, R13) -/

theorem Link.receive_hold (l : Link) (n : Fin 8) (enabled : Bool) (fill : Int) (verify : Option Nat)
    (x : LinkInput) : (l.receive n enabled fill verify x).hold =
      holdAfter (l.framePeriod enabled x) (l.wasGood x) x := rfl

theorem Link.receive_out_verify (l : Link) (n : Fin 8) (enabled : Bool) (fill : Int) (clock : Nat)
    (x : LinkInput) (i : Fin 4) : (l.receive n enabled fill (some clock) x).out[i] =
      ⟨verifyPattern (4 * n.val + i.val) clock, .pattern⟩ := by
  simp [Link.receive]

theorem Link.receive_out (l : Link) (n : Fin 8) (enabled : Bool) (fill : Int) (x : LinkInput) (i : Fin 4) :
    (l.receive n enabled fill none x).out[i] =
      deliver (l.framePeriod enabled x) (l.wasGood x) x fill i := by
  simp [Link.receive]

/-- For a link that was not DOWN, Table 1.2 goes by the judgement. -/
theorem Link.wasGood_judged (l : Link) (x : LinkInput) (h : l.state ≠ .down) : l.wasGood x = l.judge x := by
  unfold Link.wasGood
  cases hs : l.state with
  | down => exact absurd hs h
  | seeking => rfl
  | locked => rfl
  | slipping => rfl

theorem LinkState.carries_iff (x : LinkState) : x.carries = true ↔ x = .locked ∨ x = .slipping := by
  cases x <;> simp [LinkState.carries]

theorem slotSample_framed {x : LinkInput} {bits : List Bool} (h : framed x = some bits) (slot : Nat) :
    slotSample x slot = frameSample bits slot := by
  simp [slotSample, h]

theorem deliver_live (after : Link) {x : LinkInput} {bits : List Bool} (fill : Int) (i : Fin 4)
    (hc : after.state.carries = true) (hx : framed x = some bits) :
    deliver after true x fill i = ⟨frameSample bits i, .live⟩ := by
  simp [deliver, hc, slotSample_framed hx]

theorem deliver_concealed (after : Link) (x : LinkInput) (fill : Int) (i : Fin 4)
    (hc : after.state.carries = true) (hw : after.withoutGood ≤ 2) :
    deliver after false x fill i = ⟨after.hold[i], .concealed⟩ := by
  simp [deliver, hc, hw]

theorem deliver_filled_lapsed (after : Link) (x : LinkInput) (fill : Int) (i : Fin 4)
    (hw : 2 < after.withoutGood) : deliver after false x fill i = ⟨fill, .filled⟩ := by
  simp [deliver, Nat.not_le.2 hw]

theorem deliver_filled (after : Link) (good : Bool) (x : LinkInput) (fill : Int) (i : Fin 4)
    (hc : after.state.carries = false) : deliver after good x fill i = ⟨fill, .filled⟩ := by
  simp [deliver, hc]

theorem holdAfter_live (after : Link) {x : LinkInput} {bits : List Bool} (i : Fin 4)
    (hc : after.state.carries = true) (hx : framed x = some bits) :
    (holdAfter after true x)[i] = frameSample bits i := by
  simp [holdAfter, hc, slotSample_framed hx]

/-- Without a LIVE delivery the hold values stay (R11). -/
theorem holdAfter_kept (after : Link) (good : Bool) (x : LinkInput)
    (h : (after.state.carries && good) = false) : holdAfter after good x = after.hold := by
  simp only [holdAfter, h, Bool.false_eq_true, if_false]

/-- Settles O39, by the rows of Table 1.2. -/
theorem delivery : Obligations.Delivery := by
  unfold Obligations.Delivery
  intro l n enabled fill x i after t good
  have hhold : after.hold = l.hold := (l.framePeriod_keeps enabled x).1
  have hout : t.out[i] = deliver after (l.wasGood x) x fill i := l.receive_out n enabled fill x i
  have hkept : t.hold = holdAfter after (l.wasGood x) x := l.receive_hold n enabled fill none x
  have hgood : l.state ≠ .down → l.wasGood x = good := l.wasGood_judged x
  refine ⟨fun k => l.receive_out_verify n enabled fill k x i, fun hd hs hg bits hb => ?_,
    fun hd hs hg hw => ?_, fun hd hs hg hw => ?_, fun hs => ?_⟩
  · have hc := after.state.carries_iff.2 hs
    rw [hout, hkept, hgood hd, hg]
    exact ⟨deliver_live after fill i hc hb, holdAfter_live after i hc hb⟩
  · rw [hout, hkept, hgood hd, hg, holdAfter_kept after false x (Bool.and_false _), ← hhold]
    exact ⟨deliver_concealed after x fill i (after.state.carries_iff.2 hs) hw, rfl⟩
  · rw [hout, hkept, hgood hd, hg, holdAfter_kept after false x (Bool.and_false _), hhold]
    exact ⟨deliver_filled_lapsed after x fill i hw, rfl⟩
  · have hc : after.state.carries = false := by
      obtain hs | hs := hs <;> rw [hs] <;> rfl
    rw [hout, hkept, holdAfter_kept after _ x (by rw [hc, Bool.false_and]), hhold]
    exact ⟨deliver_filled after _ x fill i hc, rfl⟩

/-! ### The rows that carry a frame (R9; log entry 8) -/

theorem exec_linkFrame (n : Fin 8) (x : LinkInput) (s : State) :
    exec (.linkFrame n x) s = .next (if s.awaitsFrame n then s.receiveLink n x else s) := rfl

theorem exec_linkLock (n : Fin 8) (x : LinkInput) (s : State) :
    exec (.linkLock n x) s = .next (s.receiveTransition n x .seeking .locked) := rfl

theorem exec_linkSeekTimeout (n : Fin 8) (x : LinkInput) (s : State) :
    exec (.linkSeekTimeout n x) s = .next (s.receiveTransition n x .seeking .down) := rfl

theorem exec_linkRelock (n : Fin 8) (x : LinkInput) (s : State) :
    exec (.linkRelock n x) s = .next (s.receiveTransition n x .slipping .locked) := rfl

theorem exec_linkDown (n : Fin 8) (x : LinkInput) (s : State) :
    exec (.linkDown n x) s = .next (s.receiveTransition n x .slipping .down) := rfl

theorem linkReported_iff (before after : LinkState) : linkReported before after = true ↔
    before = .seeking ∧ after = .locked ∨ before = .slipping ∧ after = .down := by
  simp [linkReported]

theorem State.awaitsFrame_iff (s : State) (n : Fin 8) : s.awaitsFrame n = true ↔
    s.power = .running ∧ s.resetLine = false ∧ s.inPeriod = true ∧ s.links[n].heard = false := by
  simp [State.awaitsFrame, State.live_iff, and_assoc]

theorem State.receiveLink_told (s : State) (n : Fin 8) (x : LinkInput)
    (h : linkReported s.links[n].state (s.received n x).state = true) :
    s.receiveLink n x = State.requestMark
      (State.raiseBoth { s with links := s.links.set n (s.received n x) } .link)
      (deviceMark .link s.proc.clock (linkArg n (s.received n x).state)) := by
  unfold State.receiveLink
  exact if_pos h

theorem State.receiveLink_quiet (s : State) (n : Fin 8) (x : LinkInput)
    (h : linkReported s.links[n].state (s.received n x).state = false) :
    s.receiveLink n x = { s with links := s.links.set n (s.received n x) } := by
  unfold State.receiveLink
  exact if_neg (by simpa using h)

/-- A row of a passage that its frame makes takes the frame as LINK_FRAME does (log entry 8). -/
theorem State.receiveTransition_made (s : State) (n : Fin 8) (x : LinkInput) {before after : LinkState}
    (h : s.awaitsFrame n = true) (hb : s.links[n].state = before) (ha : (s.received n x).state = after) :
    s.receiveTransition n x before after = s.receiveLink n x := by
  unfold State.receiveTransition
  exact if_pos ⟨h, hb, ha⟩

/-- Settles O38: each row is `State.receiveLink`, which tells of a lock from SEEKING and a fall from SLIPPING. -/
theorem linkRows : Obligations.LinkRows := by
  unfold Obligations.LinkRows
  intro n x s hp hr hin hheard after quiet told
  have hw : s.awaitsFrame n = true := (s.awaitsFrame_iff n).2 ⟨hp, hr, hin, hheard⟩
  have hframe : exec (.linkFrame n x) s = .next (s.receiveLink n x) := by rw [exec_linkFrame, if_pos hw]
  have htold : linkReported s.links[n].state after.state = true → s.receiveLink n x = told :=
    s.receiveLink_told n x
  have hquiet : linkReported s.links[n].state after.state = false → s.receiveLink n x = quiet :=
    s.receiveLink_quiet n x
  have hmade : ∀ {b a : LinkState}, s.links[n].state = b → after.state = a →
      s.receiveTransition n x b a = s.receiveLink n x := s.receiveTransition_made n x hw
  refine ⟨fun hb ha => ?_, fun hb ha => ?_, fun hb ha => ?_, fun hb ha => ?_, fun hl hf => ?_⟩
  · rw [exec_linkLock, hframe, hmade hb ha, htold (by rw [hb, ha]; rfl)]
    exact ⟨rfl, rfl⟩
  · rw [exec_linkSeekTimeout, hframe, hmade hb ha, hquiet (by rw [hb, ha]; rfl)]
    exact ⟨rfl, rfl⟩
  · rw [exec_linkRelock, hframe, hmade hb ha, hquiet (by rw [hb, ha]; rfl)]
    exact ⟨rfl, rfl⟩
  · rw [exec_linkDown, hframe, hmade hb ha, htold (by rw [hb, ha]; rfl)]
    exact ⟨rfl, rfl⟩
  · rw [hframe, hquiet]
    rw [← Bool.not_eq_true, linkReported_iff]
    exact not_or.2 ⟨hl, hf⟩

end Sys2Proof.Machine
end

section
/-! The Sample Clock Unit: the loss and the return of the house clock (R17 to R21). -/

namespace Sys2Proof.Machine

/-! ### The house clock's rows -/

theorem exec_houseClockLoss (s : State) : exec .houseClockLoss s =
    .next (if s.live && s.inPeriod && s.examineHouse.lossDue then s.examineHouse.loseHouse else s) := rfl

theorem exec_houseClockReturn (s : State) : exec .houseClockReturn s =
    .next (if s.live && s.inPeriod && !s.sessionOpen && s.examineHouse.returnDue
      then s.examineHouse.houseReturns else s.atBoundary State.boundaryReturnDue State.takeReturn) := rfl

theorem State.lossDue_iff (s : State) :
    s.lossDue = true ↔ s.clockUnit.state = .house ∧ s.clockUnit.edgeless = 3 := by
  simp [State.lossDue]

theorem State.returnDue_iff (s : State) :
    s.returnDue = true ↔ s.clockUnit.state = .fallback ∧ s.clockUnit.housePresent = 48000 := by
  simp [State.returnDue]

/-- A unit can be lost at the end of a period only after three periods without an edge (R17, R18). -/
theorem ClockUnit.examine_edgeless_lt (u : ClockUnit) (h : u.edge = some true ∨ u.edgeless < 2) :
    u.examine.edgeless < 3 := by
  unfold ClockUnit.examine
  split
  · rename_i he
    have := h.resolve_left (by simp [he])
    omega
  · exact Nat.zero_lt_succ _
  · rename_i he
    have := h.resolve_left (by simp [he])
    simp only [countTo]
    split <;> omega

/-- The source in use of a live part is that of its clock unit's state (R16, R18). -/
theorem State.sourceInUse_live (s : State) (h : s.live = true) :
    s.sourceInUse = if s.clockUnit.state = .house then .house else .internal := by
  unfold State.sourceInUse
  rw [if_pos h]
  cases s.clockUnit.state <;> rfl

/-- A live part that leaves or enters HOUSE changes its source in use, and sets CLOCK (R21). -/
theorem State.setClockState_changes (s : State) (next : ClockState) (h : s.live = true)
    (hn : s.clockUnit.state = .house ↔ next ≠ .house) :
    s.setClockState next =
      State.raiseBoth { s with clockUnit := { s.clockUnit with state := next } } .clock := by
  have hnew := State.sourceInUse_live { s with clockUnit := { s.clockUnit with state := next } } h
  have hold := s.sourceInUse_live h
  unfold State.setClockState
  refine if_neg fun heq => ?_
  rw [hnew, hold] at heq
  by_cases hx : next = .house <;> simp [hx, hn] at heq

theorem State.loseHouse_live (s : State) (h : s.live = true) (hs : s.clockUnit.state = .house) :
    s.loseHouse = State.requestMark
      (State.raiseBoth { s with clockUnit := { s.clockUnit with state := .fallback } } .clock)
      (deviceMark .clock s.proc.clock 0) := by
  unfold State.loseHouse
  rw [s.setClockState_changes .fallback h (by simp [hs])]
  rfl

theorem State.houseReturns_live (s : State) (h : s.live = true) (hs : s.clockUnit.state = .fallback) :
    s.houseReturns =
      State.raiseBoth { s with clockUnit := { s.clockUnit with state := .house } } .clock :=
  s.setClockState_changes .house h (by simp [hs])

/-! ### The takings of a boundary -/

theorem State.turned_of_stage (s : State) {next : ProceedingsState}
    {wait : Option (Nat × Option (Fin 32) × Bool)} (h : s.stage = .turned next wait) : s.turned = true := by
  simp [State.turned, h]

theorem State.boundaryDue_not_inPeriod (s : State) (h : s.inPeriod = false) : s.boundaryDue = false := by
  simp [State.boundaryDue, h]

/-- A boundary whose finished Block is dealt with is where the takings start (log entry 7). -/
theorem State.reachTurned_turned (s : State) (k : Nat) (h : s.turned = true) : s.reachTurned k = s := by
  cases hs : s.stage with
  | idle => simp [State.turned, hs] at h
  | begun => simp [State.turned, hs] at h
  | turned next wait => simp [State.reachTurned, State.reachBegun, State.boundaryDue, hs]

theorem State.atBoundary_due (s : State) (due : State → Bool) (act : State → State) (hl : s.live = true)
    (ht : s.turned = true) (hd : due s = true) : s.atBoundary due act = act s := by
  simp [State.atBoundary, hl, s.reachTurned_turned 0 ht, hd]

/-- With no closing to make, the house clock returns where it stands at 48,000 (R19). -/
theorem State.boundaryReturnDue_of (s : State) (ht : s.turned = true)
    (hc : s.sessionOpen = false ∨ s.closesHere = false) (hs : s.clockUnit.state = .fallback)
    (hn : s.clockUnit.housePresent = 48000) : s.boundaryReturnDue = true := by
  have hclose : s.closeDue = false := by
    obtain h | h := hc <;> simp [State.closeDue, h]
  simp [State.boundaryReturnDue, State.pastClose, ht, hclose, s.returnDue_iff.2 ⟨hs, hn⟩]

/-- The return of the house clock asks the boundary for its Mark (R19, R21). -/
theorem State.takeReturn_live (s : State) (h : s.live = true) (hs : s.clockUnit.state = .fallback) :
    s.takeReturn = State.boundaryMark
      (State.raiseBoth { s with clockUnit := { s.clockUnit with state := .house } } .clock)
      (deviceMark .clock s.proc.clock 1) := by
  have hold : s.sourceInUse = .internal := by simp [s.sourceInUse_live h, hs]
  have hnew : State.sourceInUse
      (State.raiseBoth { s with clockUnit := { s.clockUnit with state := .house } } .clock) = .house :=
    State.sourceInUse_live _ h
  unfold State.takeReturn State.markSource
  rw [s.houseReturns_live h hs, hold, hnew]
  exact if_neg nofun

/-- Settles O40: the period's counts by `ClockUnit.examine`, the boundary's return by `State.takeReturn`. -/
theorem houseLossAndReturn : Obligations.HouseLossAndReturn := by
  unfold Obligations.HouseLossAndReturn
  refine ⟨fun n s hp hr hin hu => ?_, fun s h => ?_, fun n k s hp hr hin hclosed hn hu => ?_,
    fun next wait s hp hr hst hin hs hn => ?_⟩
  · have hlive : s.live = true := s.live_iff.2 ⟨hp, hr⟩
    have hexam : s.examineHouse = { s with clockUnit := ⟨.house, 0, 3, none⟩ } := by
      rw [State.examineHouse, hu]; rfl
    have hdue : s.examineHouse.lossDue = true := s.examineHouse.lossDue_iff.2 (by rw [hexam]; exact ⟨rfl, rfl⟩)
    rw [exec_houseClockLoss, if_pos (by rw [hlive, hin, hdue]; rfl),
      s.examineHouse.loseHouse_live hlive (by rw [hexam]), hexam]
  · have hdue : s.examineHouse.lossDue = false := by
      rw [← Bool.not_eq_true, State.lossDue_iff, State.examineHouse_clockUnit, ClockUnit.examine_state]
      rintro ⟨hs, he⟩
      obtain h | h := h
      · exact h hs
      · exact absurd he (s.clockUnit.examine_edgeless_lt h).ne
    rw [exec_houseClockLoss, if_neg (by simp [hdue])]
  · have hlive : s.live = true := s.live_iff.2 ⟨hp, hr⟩
    have hopen : s.sessionOpen = false := by simp [State.sessionOpen, hclosed]
    have hexam : s.examineHouse = { s with clockUnit := ⟨.fallback, 48000, 0, none⟩ } := by
      obtain rfl | rfl := hn <;> rw [State.examineHouse, hu] <;> rfl
    have hdue : s.examineHouse.returnDue = true :=
      s.examineHouse.returnDue_iff.2 (by rw [hexam]; exact ⟨rfl, rfl⟩)
    rw [exec_houseClockReturn, if_pos (by rw [hlive, hin, hopen, hdue]; rfl),
      s.examineHouse.houseReturns_live hlive (by rw [hexam]), hexam]
  · intro back
    have hlive : s.live = true := s.live_iff.2 ⟨hp, hr⟩
    have hturned := s.turned_of_stage hst
    have htake : s.sessionOpen = false ∨ s.closesHere = false → exec .houseClockReturn s =
        .next (back.boundaryMark (deviceMark .clock s.proc.clock 1)) := fun hc => by
      rw [exec_houseClockReturn, if_neg (by simp [hin]), s.atBoundary_due _ _ hlive hturned
        (s.boundaryReturnDue_of hturned hc hs hn), s.takeReturn_live hlive hs]
    refine ⟨fun hopen hc => ?_, fun hclosed hw => ?_⟩
    · rw [htake (.inr hc), back.boundaryMark_open _ hst (s.sessionOpen_iff.2 hopen)]
    · have hopen : s.sessionOpen = false := by simp [State.sessionOpen, hclosed]
      rw [htake (.inl hopen), back.boundaryMark_closed _ (hw ▸ hst) hopen]

end Sys2Proof.Machine
end


section
/-! Link Frames as bits: the sync pattern, the check of R2, and a frame read back (R1, R2, R197). -/

namespace Sys2Proof.Machine

open Polynomial

/-! ### Numbers as bits, most significant first (R197) -/

@[simp] theorem bitsNat_append_singleton (bits : List Bool) (b : Bool) :
    bitsNat (bits ++ [b]) = 2 * bitsNat bits + if b then 1 else 0 := by
  simp [bitsNat]

@[simp] theorem bitsOf_length (n v : Nat) : (bitsOf n v).length = n := by
  simp [bitsOf]

/-- One more bit of a number is its lowest. -/
theorem bitsOf_succ (n v : Nat) : bitsOf (n + 1) v = bitsOf n (v / 2) ++ [v.testBit 0] := by
  simp only [bitsOf, List.range_succ, List.map_append, List.map_cons, List.map_nil, Nat.add_sub_cancel,
    Nat.sub_self]
  congr 1
  refine List.map_congr_left fun i hi => ?_
  rw [← Nat.testBit_succ]
  congr 1
  have := List.mem_range.1 hi
  omega

/-- Reading back a number sent most significant bit first gives its low bits (R197). -/
theorem bitsNat_bitsOf (n v : Nat) : bitsNat (bitsOf n v) = v % 2 ^ n := by
  induction n generalizing v with
  | zero => simp [bitsOf, bitsNat, Nat.mod_one]
  | succ n ih =>
    rw [bitsOf_succ, bitsNat_append_singleton, ih, Nat.pow_succ', Nat.mod_mul, Nat.testBit_zero]
    have := Nat.mod_two_eq_zero_or_one v
    simp only [decide_eq_true_eq]
    split <;> omega

/-- Bits are those of the number that they hold. -/
theorem bitsOf_bitsNat (bits : List Bool) : bitsOf bits.length (bitsNat bits) = bits := by
  induction bits using List.reverseRecOn with
  | nil => rfl
  | append_singleton bits b ih =>
    rw [List.length_append, List.length_singleton, bitsOf_succ, bitsNat_append_singleton]
    have hhalf : (2 * bitsNat bits + if b then 1 else 0) / 2 = bitsNat bits := by split <;> omega
    have hlow : (2 * bitsNat bits + if b then 1 else 0).testBit 0 = b := by
      cases b <;> simp [Nat.testBit_zero, Nat.add_mod]
    rw [hhalf, hlow, ih]

theorem bitsNat_eq_iff {n v : Nat} (bits : List Bool) (hl : bits.length = n) (hv : v < 2 ^ n) :
    bitsNat bits = v ↔ bits = bitsOf n v := by
  constructor
  · rintro rfl
    rw [← hl, bitsOf_bitsNat]
  · rintro rfl
    rw [bitsNat_bitsOf, Nat.mod_eq_of_lt hv]

/-! ### The sync pattern (R1, R5) -/

theorem syncFound_iff (bits : List Bool) :
    syncFound bits = true ↔ bits.take 8 = [true, true, true, false, false, false, true, false] := by
  have hpat : bitsOf 8 0xE2 = [true, true, true, false, false, false, true, false] := by decide
  simp only [syncFound, field, List.drop_zero, decide_eq_true_eq, ← hpat]
  constructor
  · rintro ⟨hl, hf⟩
    exact (bitsNat_eq_iff _ (by simp [hl]) (by decide)).1 hf
  · intro h
    have hl : (bits.take 8).length = 8 := by rw [h, bitsOf_length]
    exact ⟨by rw [List.length_take] at hl; omega, by rw [h, bitsNat_bitsOf]; rfl⟩

/-! ### The check as a remainder (R2) -/

theorem byteBits_eq_bitsOf (c : Byte) : byteBits c = bitsOf 8 c.toNat := rfl

theorem messagePoly_append_singleton (bits : List Bool) (b : Bool) :
    messagePoly (bits ++ [b]) = messagePoly bits * X + bitPoly b := by
  simp [messagePoly]

/-- Messages of one length are told apart by their polynomials. -/
theorem messagePoly_inj {xs ys : List Bool} (hl : xs.length = ys.length)
    (h : messagePoly xs = messagePoly ys) : xs = ys := by
  induction xs using List.reverseRecOn generalizing ys with
  | nil => exact (List.length_eq_zero_iff.1 hl.symm).symm
  | append_singleton xs a ih =>
    obtain ⟨ys, b, rfl⟩ : ∃ zs b, ys = zs ++ [b] := by
      cases ys using List.reverseRecOn with
      | nil => simp at hl
      | append_singleton zs b => exact ⟨zs, b, rfl⟩
    rw [messagePoly_append_singleton, messagePoly_append_singleton] at h
    have hbit : a = b := by
      have hconst : ∀ c, (bitPoly c).coeff 0 = if c then 1 else 0 := fun c => by cases c <;> simp [bitPoly]
      have h0 := congrArg (fun m => m.coeff 0) h
      simp only [coeff_add, coeff_mul_X_zero, zero_add, hconst] at h0
      cases a <;> cases b <;> simp at h0 ⊢
    rw [hbit] at h ⊢
    rw [ih (by simpa using hl) (mul_right_cancel₀ X_ne_zero (add_right_cancel h))]

theorem checkMatches_iff (bits : List Bool) : checkMatches bits = true ↔ 116 ≤ bits.length ∧
    messagePoly ((bits.drop 108).take 8) = messagePoly ((bits.drop 8).take 100) * X ^ 8 %ₘ crcPoly := by
  rw [checkMatches, decide_eq_true_iff, ← crc8_remainder, byteBits_eq_bitsOf]
  refine and_congr_right fun hl => ?_
  have hlen : ((bits.drop 108).take 8).length = 8 := by simp; omega
  rw [field, eq_comm, bitsNat_eq_iff _ hlen (BitVec.isLt _)]
  exact ⟨congrArg messagePoly, messagePoly_inj (by rw [hlen, bitsOf_length])⟩

/-! ### A frame read back (R197) -/

theorem field_append_left (xs ys : List Bool) (start n : Nat) (h : start + n ≤ xs.length) :
    field (xs ++ ys) start n = field xs start n := by
  simp only [field]
  rw [List.drop_append_of_le_length (by omega), List.take_append_of_le_length (by simp; omega)]

theorem field_append_right (xs ys : List Bool) (start n : Nat) (h : xs.length ≤ start) :
    field (xs ++ ys) start n = field ys (start - xs.length) n := by
  simp [field, List.drop_append, List.drop_eq_nil_of_le h]

theorem length_flatMap_pieces {α : Type} (f : α → List Bool) (n : Nat) (hf : ∀ a, (f a).length = n)
    (vs : List α) : (vs.flatMap f).length = vs.length * n := by
  simp [List.length_flatMap, hf]

/-- Pieces of one length, one after another, are read back one by one. -/
theorem field_flatMap_pieces {α : Type} (f : α → List Bool) (n : Nat) (hf : ∀ a, (f a).length = n)
    (vs : List α) (i : Nat) (hi : i < vs.length) : field (vs.flatMap f) (n * i) n = bitsNat (f vs[i]) := by
  induction vs generalizing i with
  | nil => simp at hi
  | cons v vs ih =>
    rw [List.flatMap_cons]
    cases i with
    | zero =>
      rw [field_append_left _ _ _ _ (by rw [hf]; omega)]
      simp [field, ← hf v]
    | succ i =>
      rw [field_append_right _ _ _ _ (by rw [hf, Nat.mul_succ]; omega), hf, Nat.mul_succ, Nat.add_sub_cancel,
        ih i (by simpa using hi), List.getElem_cons_succ]

theorem field_bitsOf (n v : Nat) : field (bitsOf n v) 0 n = v % 2 ^ n := by
  rw [field, List.drop_zero, List.take_of_length_le (by rw [bitsOf_length]), bitsNat_bitsOf]

theorem linkMessage_length (count : BitVec 4) (samples : Vector Int 4) :
    (linkMessage count samples).length = 100 := by
  rw [linkMessage, List.length_append, length_flatMap_pieces _ 24 fun _ => bitsOf_length 24 _]
  simp

theorem linkFrameOf_length (count : BitVec 4) (samples : Vector Int 4) :
    (linkFrameOf count samples).length = 116 := by
  simp [linkFrameOf, linkMessage_length]

/-- A field of the checked bits, where a Link Frame has it. -/
theorem field_linkFrameOf_message (count : BitVec 4) (samples : Vector Int 4) (start n : Nat)
    (h : start + n ≤ 100) :
    field (linkFrameOf count samples) (8 + start) n = field (linkMessage count samples) start n := by
  rw [linkFrameOf, List.append_assoc, field_append_right _ _ _ _ (by rw [bitsOf_length]; omega), bitsOf_length,
    Nat.add_sub_cancel_left, field_append_left _ _ _ _ (by rw [linkMessage_length]; omega)]

theorem syncFound_linkFrameOf (count : BitVec 4) (samples : Vector Int 4) :
    syncFound (linkFrameOf count samples) = true := by
  rw [syncFound, decide_eq_true_iff, linkFrameOf_length, linkFrameOf, List.append_assoc,
    field_append_left _ _ _ _ (by rw [bitsOf_length]), field_bitsOf]
  decide

theorem checkMatches_linkFrameOf (count : BitVec 4) (samples : Vector Int 4) :
    checkMatches (linkFrameOf count samples) = true := by
  have hbody : ((linkFrameOf count samples).drop 8).take 100 = linkMessage count samples := by
    rw [linkFrameOf, List.append_assoc, List.drop_left' (bitsOf_length 8 _),
      List.take_left' (linkMessage_length count samples)]
  have hcheck : field (linkFrameOf count samples) 108 8 = (crc8 (linkMessage count samples)).toNat := by
    rw [linkFrameOf, field_append_right _ _ _ _ (by simp [linkMessage_length])]
    simp only [List.length_append, bitsOf_length, linkMessage_length, Nat.sub_self, Nat.reduceAdd, field_bitsOf]
    exact Nat.mod_eq_of_lt (BitVec.isLt _)
  rw [checkMatches, decide_eq_true_iff, linkFrameOf_length, hbody, hcheck]
  exact ⟨le_refl _, rfl⟩

theorem frameCount_linkFrameOf (count : BitVec 4) (samples : Vector Int 4) :
    frameCount (linkFrameOf count samples) = count := by
  rw [frameCount, field_linkFrameOf_message count samples 0 4 (by decide), linkMessage,
    field_append_left _ _ _ _ (by rw [bitsOf_length]), field_bitsOf, Nat.mod_eq_of_lt count.isLt,
    BitVec.ofNat_toNat, BitVec.setWidth_eq]

/-- A 24-bit sample comes back out of its two's complement (R1). -/
theorem signed24_mod (v : Int) (hl : -8388608 ≤ v) (hu : v ≤ 8388607) :
    signed24 ((v % 16777216).toNat % 2 ^ 24) = v := by
  unfold signed24
  split <;> omega

theorem frameSample_linkFrameOf (count : BitVec 4) (samples : Vector Int 4) (i : Fin 4)
    (hl : -8388608 ≤ samples[i]) (hu : samples[i] ≤ 8388607) :
    frameSample (linkFrameOf count samples) i = samples[i] := by
  have hstart : 12 + 24 * i.val = 8 + (4 + 24 * i.val) := by omega
  rw [frameSample, hstart, field_linkFrameOf_message count samples _ 24 (by omega), linkMessage,
    field_append_right _ _ _ _ (by rw [bitsOf_length]; omega), bitsOf_length, Nat.add_sub_cancel_left,
    field_flatMap_pieces _ 24 (fun _ => bitsOf_length 24 _) _ i.val (by simp), bitsNat_bitsOf,
    Vector.getElem_toList]
  exact signed24_mod samples[i] hl hu

/-- Settles O36: the check by `crc8_remainder`, since a message is told by its polynomial. -/
theorem linkFramesReadBack : Obligations.LinkFramesReadBack := by
  unfold Obligations.LinkFramesReadBack
  intro poly crc
  refine ⟨syncFound_iff, checkMatches_iff, fun count samples hrange => ?_⟩
  intro bits
  exact ⟨linkFrameOf_length count samples, syncFound_linkFrameOf count samples,
    checkMatches_linkFrameOf count samples, frameCount_linkFrameOf count samples,
    fun i => frameSample_linkFrameOf count samples i (hrange i).1 (hrange i).2⟩

end Sys2Proof.Machine
end

section
/-! What Event Flags, Marks and a Block Boundary's takings keep: the parts of SAMPLE_PERIOD that reach across a
whole Sample Period. -/

namespace Sys2Proof.Machine

/-! ### Event Flags are only set (R181) -/

/-- The Event Flag of a port is set. -/
def State.flagged (s : State) (p : Port) (e : Event) : Prop := (s.events.get p).flags &&& eventMask e ≠ 0

/-- Every Event Flag set before is still set. -/
def State.FlagsKept (s t : State) : Prop := ∀ p e, s.flagged p e → t.flagged p e

theorem State.FlagsKept.refl (s : State) : s.FlagsKept s := fun _ _ h => h

theorem State.FlagsKept.trans {s t u : State} (h : s.FlagsKept t) (k : t.FlagsKept u) : s.FlagsKept u :=
  fun p e hf => k p e (h p e hf)

/-- What leaves the Event Flags alone keeps them. -/
theorem State.FlagsKept.congr {s t u : State} (h : s.FlagsKept t) (he : u.events = t.events) :
    s.FlagsKept u := by
  intro p e hf
  unfold State.flagged
  rw [he]
  exact h p e hf

theorem State.FlagsKept.of_events {s t : State} (h : t.events = s.events) : s.FlagsKept t :=
  (State.FlagsKept.refl s).congr h

theorem State.flagged_raise (s : State) (p q : Port) (d e : Event) :
    (s.raise q d).flagged p e ↔ s.flagged p e ∨ p = q ∧ eventMask d &&& eventMask e ≠ 0 := by
  have hor : ∀ a b m : BitVec 16, ¬(a ||| b) &&& m = 0#16 ↔ ¬a &&& m = 0#16 ∨ ¬b &&& m = 0#16 :=
    fun a b m => by
      rw [BitVec.and_comm, BitVec.and_or_distrib_left, BitVec.and_comm m a, BitVec.and_comm m b,
        BitVec.or_eq_zero_iff, not_and_or]
  cases p <;> cases q <;> simp [State.flagged, State.raise, Both.update, Both.get, Both.set, hor]

theorem eventMask_self (e : Event) : eventMask e &&& eventMask e ≠ 0 := by
  cases e <;> decide

theorem State.FlagsKept.raise (s : State) (p : Port) (e : Event) : s.FlagsKept (s.raise p e) :=
  fun _ _ h => (s.flagged_raise _ p e _).2 (.inl h)

theorem State.FlagsKept.raiseBoth (s : State) (e : Event) : s.FlagsKept (s.raiseBoth e) :=
  (State.FlagsKept.raise s .a e).trans (.raise _ .b e)

theorem State.FlagsKept.congr_raiseBoth {s t u : State} (h : s.FlagsKept t) (he : u.events = t.events)
    (e : Event) : s.FlagsKept (u.raiseBoth e) :=
  (h.congr he).trans (.raiseBoth u e)

theorem State.raiseBoth_flagged (s : State) (e : Event) (p : Port) : (s.raiseBoth e).flagged p e := by
  cases p with
  | a => exact State.FlagsKept.raise _ _ _ _ _ ((s.flagged_raise .a .a e e).2 (.inr ⟨rfl, eventMask_self e⟩))
  | b => exact ((s.raise .a e).flagged_raise .b .b e e).2 (.inr ⟨rfl, eventMask_self e⟩)

/-- A fold of steps that each keep the flags keeps them. -/
theorem State.FlagsKept.foldl {α : Type} (f : State → α → State) 
    (hf : ∀ (s : State) (a : α), s.FlagsKept (f s a)) (xs : List α) (s : State) : s.FlagsKept (xs.foldl f s) := by
  induction xs generalizing s with
  | nil => exact .refl s
  | cons a xs ih => exact (hf s a).trans (ih (f s a))

theorem State.FlagsKept.freeMark (s : State) : s.FlagsKept s.freeMark := by
  have hcut : ∀ (s : State) n p, s.FlagsKept (s.raiseMarkCut n p) := fun s n p => by
    unfold State.raiseMarkCut
    split
    · exact .raise s p _
    · exact .refl s
  exact ((hcut s _ .a).trans (hcut _ _ .b)).congr rfl

theorem State.FlagsKept.storeMark (s : State) (q : MarkRequest) : s.FlagsKept (s.storeMark q) := by
  have hfree : s.FlagsKept (if s.marks.marks.length ≥ 1024 then s.freeMark else s) := by
    split
    · exact .freeMark s
    · exact .refl s
  exact hfree.congr_raiseBoth rfl .mark

theorem State.FlagsKept.countLost (s : State) (time : Nat) : s.FlagsKept (s.countLost time) :=
  (State.FlagsKept.refl s).congr_raiseBoth rfl .marksLost

theorem State.FlagsKept.storeLost (s : State) : s.FlagsKept s.storeLost :=
  (State.FlagsKept.storeMark s _).congr rfl

theorem State.FlagsKept.insertMark (s : State) (q : MarkRequest) : s.FlagsKept (s.insertMark q) := by
  obtain ⟨_, _, h⟩ | ⟨_, h⟩ | ⟨_, _, h⟩ | ⟨_, _, h⟩ := s.insertMark_cases q <;> rw [h]
  · exact .storeMark s q
  · exact .countLost s _
  · exact (State.FlagsKept.storeLost s).trans (.storeMark _ q)
  · exact (State.FlagsKept.countLost s _).trans (.storeLost _)

theorem State.FlagsKept.requestMark (s : State) (q : MarkRequest) : s.FlagsKept (s.requestMark q) := by
  unfold State.requestMark
  split
  · exact .insertMark s q
  · exact .refl s

/-! ### The end of a Sample Period sets flags and clears none -/

theorem State.FlagsKept.receiveLink (s : State) (n : Fin 8) (x : LinkInput) : s.FlagsKept (s.receiveLink n x) := by
  cases h : linkReported s.links[n].state (s.received n x).state with
  | true =>
    rw [s.receiveLink_told n x h]
    refine .trans ?_ (.requestMark _ _)
    exact (State.FlagsKept.refl s).congr_raiseBoth rfl .link
  | false =>
    rw [s.receiveLink_quiet n x h]
    exact .of_events rfl

theorem State.FlagsKept.missLink (s : State) (n : Fin 8) : s.FlagsKept (s.missLink n) := by
  unfold State.missLink
  split
  · exact .refl s
  · exact .receiveLink s n _

theorem State.FlagsKept.missLinks (s : State) : s.FlagsKept s.missLinks :=
  .foldl State.missLink State.FlagsKept.missLink _ s

theorem State.FlagsKept.enterSidebar (s : State) (who : Party) (target : Option (Target × Party)) :
    s.FlagsKept (s.enterSidebar who target) := by
  unfold State.enterSidebar
  refine .trans (.trans ?_ (.requestMark _ _)) (.raiseBoth _ .state)
  exact .of_events rfl

theorem State.FlagsKept.request (s : State) (wanted : ProceedingsState) (who : Party) :
    s.FlagsKept (s.request wanted who).2 := by
  have hgeneral : ∀ current target, s.FlagsKept (s.general current target who).2 := fun current target => by
    unfold State.general
    repeat' split
    all_goals exact .of_events rfl
  have hoff : s.FlagsKept (s.requestOff who).2 := by
    unfold State.requestOff
    split
    · exact .refl s
    all_goals exact hgeneral _ _
  have hon : s.FlagsKept (s.requestOn who).2 := by
    unfold State.requestOn
    split
    · exact .refl s
    · exact hgeneral _ _
    · exact hgeneral _ _
    · split
      · exact .refl s
      · exact hgeneral _ _
  have hsidebar : s.FlagsKept (s.requestSidebar who).2 := by
    unfold State.requestSidebar
    split
    · exact .refl s
    · exact hgeneral _ _
    · exact .enterSidebar s who none
    · exact hgeneral _ _
  unfold State.request
  split
  · exact .refl s
  · split
    · exact .refl s
    · exact hoff
    · exact hon
    · exact hsidebar

theorem State.FlagsKept.lineChanged (s : State) (l : Line) (level : Bool) (x : BenchLine) :
    s.FlagsKept (s.lineChanged l level x) := by
  have hrise : s.FlagsKept s.privacyRise := by
    unfold State.privacyRise
    split
    · exact .enterSidebar s _ _
    all_goals exact .refl s
  have hfall : s.FlagsKept s.privacyFall := by
    unfold State.privacyFall
    repeat' split
    all_goals exact .of_events rfl
  cases l <;> cases level
  case onRec.true | offRec.true => exact .request s _ _
  case privacy.true => exact hrise
  case privacy.false => exact hfall
  case mark.true => exact .requestMark s _
  all_goals exact .refl s

theorem State.FlagsKept.settleBench (s : State) : s.FlagsKept s.settleBench := by
  refine .foldl State.settleLine (fun s l => ?_) _ s
  unfold State.settleLine
  split
  · refine .trans ?_ (.lineChanged _ l _ _)
    exact .of_events rfl
  · exact .refl s

theorem State.FlagsKept.setClockState (s : State) (next : ClockState) : s.FlagsKept (s.setClockState next) := by
  unfold State.setClockState
  dsimp only
  split
  · exact .of_events rfl
  · exact (State.FlagsKept.refl s).congr_raiseBoth rfl .clock

theorem State.FlagsKept.settleLoss (s : State) : s.FlagsKept s.settleLoss := by
  unfold State.settleLoss
  split
  · exact (State.FlagsKept.setClockState s _).trans (.requestMark _ _)
  · exact .refl s

theorem State.FlagsKept.settleReturn (s : State) : s.FlagsKept s.settleReturn := by
  unfold State.settleReturn
  split
  · exact .setClockState s _
  · exact .refl s

theorem State.FlagsKept.countPeriod (s : State) : s.FlagsKept s.countPeriod := by
  have htrack : s.FlagsKept s.trackPeriod := by
    unfold State.trackPeriod
    split
    · exact .refl s
    · dsimp only
      generalize hu : ({ s with inProgress := _, tracks := _ } : State) = u
      have hkept : s.FlagsKept u := .of_events (by rw [← hu])
      split
      · exact hkept.trans (.raiseBoth u .clip)
      · exact hkept
  unfold State.countPeriod
  split
  · exact htrack.congr rfl
  · exact .refl s

/-! ### Marks do not look at the clock unit or the Event Flags (R154, R155, R157) -/

theorem State.storeMark_marks (s : State) (q : MarkRequest) : (s.storeMark q).marks = { s.marks with
    marks := (if s.marks.marks.length ≥ 1024 then s.marks.marks.tail else s.marks.marks) ++ [s.makeMark q]
    next := s.marks.next + 1 } := by
  obtain ⟨r, e, h⟩ := s.storeMark_keeps q
  rw [h]

theorem State.storeLost_marks (s : State) : s.storeLost.marks =
    ⟨(if s.marks.marks.length ≥ 1024 then s.marks.marks.tail else s.marks.marks) ++
      [s.makeMark s.lostRequest], s.marks.next + 1, 0, none⟩ := by
  obtain ⟨r, e, h⟩ := s.storeLost_keeps
  rw [h]

theorem State.insertMark_marks_congr (s : State) (q : MarkRequest) (c : ClockUnit) (e : Both EventPort) :
    (State.insertMark { s with clockUnit := c, events := e } q).marks = (s.insertMark q).marks := by
  have hlost : (State.storeMark (State.storeLost { s with clockUnit := c, events := e }) q).marks =
      (s.storeLost.storeMark q).marks := by
    obtain ⟨r, d, h⟩ := s.storeLost_keeps
    obtain ⟨r', d', h'⟩ := State.storeLost_keeps { s with clockUnit := c, events := e }
    rw [h, h', State.storeMark_marks, State.storeMark_marks]
    rfl
  have hentries : State.obtainableEntries { s with clockUnit := c, events := e } = s.obtainableEntries := rfl
  unfold State.insertMark
  rw [hentries]
  dsimp only
  split
  · split
    · rw [State.storeMark_marks, State.storeMark_marks]
      rfl
    · rfl
  · split
    · exact hlost
    · split
      · rw [State.storeLost_marks, State.storeLost_marks]
        rfl
      · rfl

theorem State.requestMark_marks_congr (s : State) (q : MarkRequest) (c : ClockUnit) (e : Both EventPort) :
    (State.requestMark { s with clockUnit := c, events := e } q).marks = (s.requestMark q).marks := by
  cases h : s.sessionOpen with
  | true =>
    rw [s.requestMark_open q h, State.requestMark_open { s with clockUnit := c, events := e } q h]
    exact s.insertMark_marks_congr q c e
  | false =>
    rw [s.requestMark_closed q h, State.requestMark_closed { s with clockUnit := c, events := e } q h]

end Sys2Proof.Machine
end


section
/-! SAMPLE_PERIOD: what the end of a period brings, the boundary's work before a start, and the start itself (R1,
R16 to R19, R79, R95; log entries 6 and 7). -/

namespace Sys2Proof.Machine

/-! ### The house counts at the end of a period (R17 to R19) -/

/-- A period without an edge that makes three has no steady house clock behind it. -/
theorem ClockUnit.examine_lost_absent (u : ClockUnit) {e : Bool} (he : u.edge = some e)
    (h : u.examine.edgeless = 3) : u.examine.housePresent = 0 := by
  cases e with
  | true => simp [ClockUnit.examine, he] at h
  | false => simp [ClockUnit.examine, he]

theorem ClockUnit.settled_counts (u : ClockUnit) (closed : Bool) :
    (u.settled closed).housePresent = u.housePresent ∧ (u.settled closed).edgeless = u.edgeless ∧
      (u.settled closed).edge = u.edge := by
  unfold ClockUnit.settled
  dsimp only
  split <;> split <;> exact ⟨rfl, rfl, rfl⟩

theorem ClockUnit.settled_lost (u : ClockUnit) (closed : Bool) (hs : u.state = .house) (he : u.edgeless = 3)
    (hp : u.housePresent = 0) : (u.settled closed).state = .fallback := by
  simp [ClockUnit.settled, hs, he, hp]

theorem ClockUnit.settled_back (u : ClockUnit) (hs : u.state = .fallback) (hp : u.housePresent = 48000) :
    (u.settled true).state = .house := by
  simp [ClockUnit.settled, hs, hp]

theorem ClockUnit.settled_same (u : ClockUnit) (closed : Bool) (hl : ¬(u.state = .house ∧ u.edgeless = 3))
    (hb : ¬(closed = true ∧ u.state = .fallback ∧ u.housePresent = 48000)) :
    (u.settled closed).state = u.state := by
  simp [ClockUnit.settled, hl, hb]

/-! ### The events of the end of a period (R9, R21) -/

theorem State.received_congr {s t : State} (i : Fin 8) (x : LinkInput) (hl : t.links[i] = s.links[i])
    (hs : t.settings = s.settings) (hp : t.proc = s.proc) : t.received i x = s.received i x := by
  unfold State.received State.verifyClock State.sessionOpen
  rw [hl, hs, hp]

/-- A link that was not heard and whose missing frame makes a reported passage sets LINK (R9). -/
theorem State.missLinks_flagged (s : State) (i : Fin 8) (hh : s.links[i].heard = false)
    (hr : linkReported s.links[i].state (s.received i .absent).state = true) (p : Port) :
    s.missLinks.flagged p .link := by
  suffices h : ∀ ns : List (Fin 8), i ∈ ns → ∀ s : State, s.links[i].heard = false →
      linkReported s.links[i].state (s.received i .absent).state = true →
      (ns.foldl State.missLink s).flagged p .link from h _ (List.mem_finRange i) s hh hr
  intro ns
  induction ns with
  | nil => exact fun h => nomatch h
  | cons n ns ih =>
    intro hi s hh hr
    rw [List.foldl_cons]
    by_cases hn : i = n
    · subst hn
      have htold : (s.missLink i).flagged p .link := by
        unfold State.missLink
        rw [if_neg (by rw [hh]; nofun), s.receiveLink_told i .absent hr]
        exact State.FlagsKept.requestMark _ _ _ _ (State.raiseBoth_flagged _ _ p)
      exact State.FlagsKept.foldl State.missLink State.FlagsKept.missLink ns _ _ _ htold
    · obtain ⟨r, e, m, h⟩ := s.missLink_eq n
      have hne : (n : Nat) ≠ i := fun h => hn (Fin.ext h.symm)
      have hlink : (s.missLink n).links[i] = s.links[i] := by
        rw [h]
        simp [hne]
      have hrec : (s.missLink n).received i .absent = s.received i .absent :=
        State.received_congr i .absent hlink (by rw [h]) (by rw [h])
      refine ih ((List.mem_cons.1 hi).resolve_left hn) (s.missLink n) ?_ ?_
      · rw [hlink]; exact hh
      · rw [hlink, hrec]; exact hr

/-- The state in which the house clock of a period that ends is looked at: its links and Bench Lines are settled and
its edge is counted. -/
def State.examined (s : State) : State := s.missLinks.settleBench.examineHouse

theorem State.examined_keeps (s : State) :
    s.examined.clockUnit = s.clockUnit.examine ∧ s.examined.live = s.live ∧
      s.examined.sessionOpen = s.sessionOpen := by
  obtain ⟨l, r, e, m, h1, _⟩ := s.missLinks_eq
  obtain ⟨x, r2, e2, m2, h2, _, _, _, _, _, _, hx⟩ := s.missLinks.settleBench_keeps
  rw [h1] at h2 hx
  have h3 : s.examined = { s with
      links := l, proc := x, clockUnit := s.clockUnit.examine, readers := r2, events := e2, marks := m2 } := by
    rw [State.examined, h1, h2]
    rfl
  refine ⟨by rw [h3], by rw [h3]; rfl, ?_⟩
  rw [Bool.eq_iff_iff, State.sessionOpen_iff, State.sessionOpen_iff, h3]
  exact not_congr hx

theorem State.endPeriod_eq (s : State) : s.endPeriod =
    { s.examined.settleLoss.settleReturn.countPeriod with
      inPeriod := false
      links := Vector.ofFn fun i =>
        { s.examined.settleLoss.settleReturn.countPeriod.links[i] with heard := false } } := by
  unfold State.endPeriod State.examined
  rfl

theorem State.FlagsKept.endPeriod_of_return (s : State) :
    s.examined.settleLoss.settleReturn.FlagsKept s.endPeriod :=
  (State.FlagsKept.countPeriod _).congr (by rw [s.endPeriod_eq])

/-- All that follows the look at the house clock keeps its flags. -/
theorem State.FlagsKept.endPeriod_of_loss (s : State) : s.examined.settleLoss.FlagsKept s.endPeriod :=
  (State.FlagsKept.settleReturn _).trans (.endPeriod_of_return s)

theorem State.endPeriod_flagged_link (s : State) (i : Fin 8) (hh : s.links[i].heard = false)
    (hr : linkReported s.links[i].state (s.received i .absent).state = true) (p : Port) :
    s.endPeriod.flagged p .link := by
  refine State.FlagsKept.endPeriod_of_loss s p _ (State.FlagsKept.settleLoss _ p _ ?_)
  exact (State.FlagsKept.settleBench s.missLinks).congr (State.examineHouse_events _) p _
    (s.missLinks_flagged i hh hr p)

theorem State.examined_loseHouse (s : State) (hl : s.live = true) (hs : s.clockUnit.state = .house)
    (he : s.clockUnit.examine.edgeless = 3) : s.examined.settleLoss = State.requestMark
      (State.raiseBoth { s.examined with clockUnit := { s.examined.clockUnit with state := .fallback } } .clock)
      (deviceMark .clock s.examined.proc.clock 0) := by
  obtain ⟨hu, hlive, _⟩ := s.examined_keeps
  have hhouse : s.examined.clockUnit.state = .house := by rw [hu, ClockUnit.examine_state, hs]
  unfold State.settleLoss
  rw [if_pos (s.examined.lossDue_iff.2 ⟨hhouse, by rw [hu, he]⟩),
    s.examined.loseHouse_live (hlive.trans hl) hhouse]

theorem State.settleLoss_none (s : State) (h : ¬(s.clockUnit.state = .house ∧ s.clockUnit.edgeless = 3)) :
    s.settleLoss = s := by
  unfold State.settleLoss
  exact if_neg fun hd => h (s.lossDue_iff.1 hd)

theorem State.endPeriod_flagged_lost (s : State) (hl : s.live = true) (hs : s.clockUnit.state = .house)
    (he : s.clockUnit.examine.edgeless = 3) (p : Port) : s.endPeriod.flagged p .clock := by
  refine State.FlagsKept.endPeriod_of_loss s p _ ?_
  rw [s.examined_loseHouse hl hs he]
  exact State.FlagsKept.requestMark _ _ _ _ (State.raiseBoth_flagged _ _ p)

theorem State.endPeriod_flagged_back (s : State) (hl : s.live = true) (hc : s.proc.state = .closed)
    (hs : s.clockUnit.state = .fallback) (hp : s.clockUnit.examine.housePresent = 48000) (p : Port) :
    s.endPeriod.flagged p .clock := by
  obtain ⟨hu, hlive, hopen⟩ := s.examined_keeps
  have hfall : s.examined.clockUnit.state = .fallback := by rw [hu, ClockUnit.examine_state, hs]
  have hret : s.examined.settleLoss.settleReturn.flagged p .clock := by
    rw [s.examined.settleLoss_none (by simp [hfall]), State.settleReturn, if_pos]
    · rw [s.examined.houseReturns_live (hlive.trans hl) hfall]
      exact State.raiseBoth_flagged _ _ p
    · have hclosed : s.sessionOpen = false := by simp [State.sessionOpen, hc]
      rw [hopen, hclosed, s.examined.returnDue_iff.2 ⟨hfall, by rw [hu, hp]⟩]
      rfl
  exact State.FlagsKept.endPeriod_of_return s p _ hret

/-! ### The Marks of a period with no missing frame and no line to accept (R21) -/

theorem State.examined_heard (s : State) (hh : ∀ i : Fin 8, s.links[i].heard = true)
    (hb : ∀ l : Line, (s.proc.lines.get l).count ≠ 960) : s.examined = s.examineHouse := by
  have hmiss : s.missLinks = s := List.foldl_fixed' (f := State.missLink) (fun i => by
    unfold State.missLink
    exact if_pos (hh i)) _
  have hbench : s.settleBench = s := List.foldl_fixed' (f := State.settleLine) (fun l => by
    unfold State.settleLine State.acceptDue
    exact if_neg (by simpa using hb l)) _
  rw [State.examined, hmiss, hbench]

theorem State.endPeriod_marks (s : State) : s.endPeriod.marks = s.examined.settleLoss.marks := by
  have hreturn : ∀ u : State, u.settleReturn.marks = u.marks := fun u => by
    obtain ⟨e, h⟩ := u.settleReturn_keeps
    rw [h]
  have hcount : ∀ u : State, u.countPeriod.marks = u.marks := fun u => by
    obtain ⟨b, t, e, h⟩ := u.countPeriod_keeps
    rw [h]
  have hend : s.endPeriod.marks = s.examined.settleLoss.settleReturn.countPeriod.marks := by
    rw [s.endPeriod_eq]
  rw [hend, hcount, hreturn]

theorem State.endPeriod_marks_lost (s : State) (hl : s.live = true) (hh : ∀ i : Fin 8, s.links[i].heard = true)
    (hb : ∀ l : Line, (s.proc.lines.get l).count ≠ 960) (hs : s.clockUnit.state = .house)
    (he : s.clockUnit.examine.edgeless = 3) :
    s.endPeriod.marks = (s.requestMark (deviceMark .clock s.proc.clock 0)).marks := by
  rw [s.endPeriod_marks, s.examined_loseHouse hl hs he, s.examined_heard hh hb]
  exact s.requestMark_marks_congr _ _ _

theorem State.endPeriod_marks_kept (s : State) (hh : ∀ i : Fin 8, s.links[i].heard = true)
    (hb : ∀ l : Line, (s.proc.lines.get l).count ≠ 960)
    (hn : ¬(s.clockUnit.state = .house ∧ s.clockUnit.examine.edgeless = 3)) :
    s.endPeriod.marks = s.marks := by
  obtain ⟨hu, _, _⟩ := s.examined_keeps
  have hloss := s.examined.settleLoss_none (by rw [hu, ClockUnit.examine_state]; exact hn)
  rw [s.endPeriod_marks, hloss, s.examined_heard hh hb]
  rfl

/-! ### The start of a Sample Period (R16, R17, R95) -/

theorem State.setUpIfFirst_keeps (s : State) :
    ∃ b t, s.setUpIfFirst = { s with inProgress := b, tracks := t } ∧
      (s.proc.state = .closed ∨ s.proc.clock % 480 ≠ 0 → b = s.inProgress ∧ t = s.tracks) := by
  unfold State.setUpIfFirst
  split
  · rename_i h
    rw [Bool.and_eq_true, State.sessionOpen_iff, decide_eq_true_iff] at h
    exact ⟨_, _, rfl, fun hn => (hn.elim h.1 fun hk => hk h.2).elim⟩
  · exact ⟨_, _, rfl, fun _ => ⟨rfl, rfl⟩⟩

theorem State.not_sessionOpen (s : State) : (!s.sessionOpen) = decide (s.proc.state = .closed) := by
  unfold State.sessionOpen
  cases s.proc.state <;> rfl

/-- All that the start of a Sample Period does. -/
theorem State.startPeriod_keeps (s : State) (edge : Bool) (levels : BenchLevels) :
    ∃ b t x, s.startPeriod edge levels = { s with
        inPeriod := true
        frameSyncs := s.frameSyncs + 1
        proc := { s.proc with opening := false, lines := x }
        clockUnit := { s.clockUnit with edge := some edge }
        inProgress := b
        tracks := t } ∧
      (∀ l : Line, x.get l = (s.proc.lines.get l).sample (levelOf levels l) s.proc.clock
        (decide (s.proc.state = .closed))) ∧
      (s.proc.state = .closed ∨ s.proc.clock % 480 ≠ 0 → b = s.inProgress ∧ t = s.tracks) := by
  unfold State.startPeriod
  dsimp only
  generalize hu : ({ s with inPeriod := true, frameSyncs := _, proc := _, clockUnit := _ } : State) = u
  obtain ⟨b, t, h, hset⟩ := u.setUpIfFirst_keeps
  subst hu
  rw [h]
  refine ⟨b, t, _, rfl, fun l => ?_, hset⟩
  rw [← s.not_sessionOpen]
  cases l <;> rfl

/-- The Bench Lines after the start, at the clock value and state that it leaves (R95). -/
theorem State.startPeriod_lines (s : State) (edge : Bool) (levels : BenchLevels) (l : Line) :
    (s.startPeriod edge levels).proc.lines.get l =
      (s.proc.lines.get l).sample (levelOf levels l) (s.startPeriod edge levels).proc.clock
        (decide ((s.startPeriod edge levels).proc.state = .closed)) := by
  obtain ⟨b, t, x, h, hsample, _⟩ := s.startPeriod_keeps edge levels
  rw [h]
  exact hsample l

/-! ### The boundary's work (R64, R79, R90 to R93) -/

/-- What a Block Boundary leaves of a state once its period has ended: the part's links, lines and clock go on. -/
structure State.BoundaryKeeps (s t : State) : Prop where
  power : t.power = s.power
  resetLine : t.resetLine = s.resetLine
  inPeriod : t.inPeriod = s.inPeriod
  frameSyncs : t.frameSyncs = s.frameSyncs
  links : t.links = s.links
  clock : t.proc.clock = s.proc.clock
  periods : t.proc.periods = s.proc.periods
  lines : t.proc.lines = s.proc.lines

theorem State.BoundaryKeeps.refl (s : State) : s.BoundaryKeeps s := ⟨rfl, rfl, rfl, rfl, rfl, rfl, rfl, rfl⟩

theorem State.BoundaryKeeps.trans {s t u : State} (h : s.BoundaryKeeps t) (k : t.BoundaryKeeps u) :
    s.BoundaryKeeps u :=
  ⟨k.power.trans h.power, k.resetLine.trans h.resetLine, k.inPeriod.trans h.inPeriod,
    k.frameSyncs.trans h.frameSyncs, k.links.trans h.links, k.clock.trans h.clock, k.periods.trans h.periods,
    k.lines.trans h.lines⟩

theorem State.BoundaryKeeps.ifDue (due : State → Bool) (act : State → State)
    (h : ∀ s : State, s.BoundaryKeeps (act s)) (s : State) : s.BoundaryKeeps (s.ifDue due act) := by
  unfold State.ifDue
  split
  · exact h s
  · exact .refl s

theorem State.BoundaryKeeps.closeNow (s : State) : s.BoundaryKeeps s.closeNow := by
  obtain ⟨r, e, m, h⟩ := s.closeNow_keeps
  rw [h]
  exact ⟨rfl, rfl, rfl, rfl, rfl, rfl, rfl, rfl⟩

theorem State.BoundaryKeeps.takeTarget (s : State) : s.BoundaryKeeps s.takeTarget := by
  obtain ⟨x, g, r, e, m, h⟩ := s.takeTarget_keeps
  rw [h]
  exact ⟨rfl, rfl, rfl, rfl, rfl, rfl, rfl, rfl⟩

theorem State.BoundaryKeeps.takeArmed (s : State) : s.BoundaryKeeps s.takeArmed := by
  cases hp : s.plans.armed with
  | none =>
    rw [State.takeArmed, hp]
    exact .refl s
  | some plan =>
    obtain ⟨g, r, e, m, h⟩ := s.takeArmed_keeps plan hp
    rw [h]
    exact ⟨rfl, rfl, rfl, rfl, rfl, rfl, rfl, rfl⟩

theorem State.BoundaryKeeps.takeGains (s : State) (order : List (Fin 32)) :
    s.BoundaryKeeps (s.takeGains order) := by
  obtain ⟨x, c, g, r, e, m, h⟩ := s.takeGains_keeps order
  rw [h]
  exact ⟨rfl, rfl, rfl, rfl, rfl, rfl, rfl, rfl⟩

theorem State.BoundaryKeeps.takeSource (s : State) : s.BoundaryKeeps s.takeSource := by
  cases hx : s.changes.source with
  | none =>
    rw [State.takeSource, hx]
    exact .refl s
  | some x =>
    obtain ⟨g, r, e, m, h⟩ := s.takeSource_keeps x hx
    rw [h]
    exact ⟨rfl, rfl, rfl, rfl, rfl, rfl, rfl, rfl⟩

theorem State.BoundaryKeeps.takeReturn (s : State) : s.BoundaryKeeps s.takeReturn := by
  obtain ⟨g, r, e, m, h⟩ := s.takeReturn_keeps
  rw [h]
  exact ⟨rfl, rfl, rfl, rfl, rfl, rfl, rfl, rfl⟩

/-- The boundary is over (log entry 7). -/
theorem State.BoundaryKeeps.closed (s : State) : s.BoundaryKeeps { s.flushFloor with stage := .idle } := by
  obtain ⟨g, r, e, m, h⟩ := s.flushFloor_keeps
  rw [h]
  exact ⟨rfl, rfl, rfl, rfl, rfl, rfl, rfl, rfl⟩

/-- The takings of a boundary, in the model's order, and the FLOOR Mark that may still wait (log entries 7, 10). -/
theorem State.finishTurned_keeps (s : State) : s.BoundaryKeeps s.finishTurned ∧ s.finishTurned.stage = .idle := by
  refine ⟨?_, rfl⟩
  have hclose := State.BoundaryKeeps.ifDue State.closeDue _ .closeNow s
  have htarget := hclose.trans (.ifDue State.targetDue _ .takeTarget _)
  have hplan := htarget.trans (.ifDue State.planDue _ .takeArmed _)
  have hgain := hplan.trans (.ifDue State.gainDue (fun s => s.takeGains []) (fun s => .takeGains s []) _)
  have hsource := hgain.trans (.ifDue State.sourceDue _ .takeSource _)
  have hreturn := hsource.trans (.ifDue State.boundaryReturnDue _ .takeReturn _)
  exact hreturn.trans (.closed _)

theorem State.askFloor_keeps (s : State) (before : Option (Fin 32)) (cls : BlockClass) (after : Nat)
    (h : s.turned = true) :
    ∃ g r e m, s.askFloor before cls after = { s with stage := g, readers := r, events := e, marks := m } ∧
      (s.askFloor before cls after).turned = true := by
  cases hs : s.stage with
  | idle => simp [State.turned, hs] at h
  | begun => simp [State.turned, hs] at h
  | turned next wait =>
    simp only [State.askFloor, hs]
    split
    · split
      · obtain ⟨r, e, m, hf⟩ := State.requestMark_keeps { s with stage := .turned next none }
          (floorMark s.proc.clock s.floor.holder
            (decide (cls = .restricted) || decide (next = .sidebar)))
        simp only [State.flushFloor, hf]
        exact ⟨_, _, _, _, rfl, rfl⟩
      · exact ⟨_, _, _, _, rfl, rfl⟩
    · exact ⟨_, _, _, _, rfl, h⟩

theorem State.updateActivity_keeps (s : State) (peaks : List Nat) :
    ∃ a, s.updateActivity peaks = { s with activity := a } := ⟨_, rfl⟩

theorem State.decideFloor_keeps (s : State) (peaks : List Nat) :
    ∃ f e, s.decideFloor peaks = { s with floor := f, events := e } := by
  unfold State.decideFloor
  dsimp only
  split <;> exact ⟨_, _, rfl⟩

theorem State.dealWith_keeps (s : State) (b : BlockInProgress) :
    ∃ i t r e x, s.dealWith b = { s with inProgress := i, tracks := t, readers := r, events := e, ring := x } := by
  unfold State.dealWith
  dsimp only
  generalize hu : ({ s with inProgress := none, tracks := _ } : State) = u
  obtain ⟨r, e, x, h⟩ := u.ringAtBoundary_keeps s.proc.recording (s.finishedBlock b)
  rw [h, ← hu]
  exact ⟨_, _, _, _, _, rfl⟩

theorem State.turn_none (s : State) (floorAfter : Nat) (h : s.inProgress = none) : s.turn floorAfter =
    (State.fixNext ((s.updateActivity s.peaks).decideFloor s.peaks)).askFloor s.floor.holder s.finishedClass
      floorAfter := by
  simp only [State.turn, h]

theorem State.turn_some (s : State) (floorAfter : Nat) (b : BlockInProgress) (h : s.inProgress = some b) :
    s.turn floorAfter = (State.fixNext (((s.updateActivity s.peaks).decideFloor s.peaks).dealWith b)).askFloor
      s.floor.holder s.finishedClass floorAfter := by
  simp only [State.turn, h]

/-- A boundary judges activity and Floor and deals with the finished Block, if there is one, before it fixes the state
after it (R64, R90). -/
theorem State.turn_eq (s : State) (floorAfter : Nat) :
    ∃ i t a f r e x, s.turn floorAfter = (State.fixNext { s with
      inProgress := i, tracks := t, activity := a, floor := f, readers := r, events := e, ring := x }).askFloor
        s.floor.holder s.finishedClass floorAfter := by
  obtain ⟨a, hact⟩ := s.updateActivity_keeps s.peaks
  obtain ⟨f, e, hfloor⟩ := State.decideFloor_keeps { s with activity := a } s.peaks
  cases hb : s.inProgress with
  | none =>
    refine ⟨s.inProgress, s.tracks, a, f, s.readers, e, s.ring, ?_⟩
    rw [s.turn_none floorAfter hb, hact, hfloor]
  | some b =>
    obtain ⟨i, t, r, e', x, h⟩ := State.dealWith_keeps { s with activity := a, floor := f, events := e } b
    refine ⟨i, t, a, f, r, e', x, ?_⟩
    rw [s.turn_some floorAfter b hb, hact, hfloor, h]

/-- All that the dealing with a finished Block can reach (R64, R79, R93). -/
theorem State.turn_keeps (s : State) (floorAfter : Nat) :
    ∃ i t a f g r e m x restricted recording, s.turn floorAfter = { s with
        inProgress := i, tracks := t, activity := a, floor := f, stage := g, readers := r, events := e, marks := m
        ring := x
        proc := { s.proc with
          periods := s.proc.periods + 1, restricted := restricted, recording := recording } } ∧
      (s.turn floorAfter).turned = true := by
  obtain ⟨i, t, a, f, r, e, x, h⟩ := s.turn_eq floorAfter
  obtain ⟨g, r', e', m, hask, hturned⟩ := State.askFloor_keeps (State.fixNext { s with
    inProgress := i, tracks := t, activity := a, floor := f, readers := r, events := e, ring := x })
    s.floor.holder s.finishedClass floorAfter rfl
  rw [h]
  exact ⟨i, t, a, f, g, r', e', m, x, _, _, hask, hturned⟩

/-! ### The rows SAMPLE_PERIOD and BLOCK_BOUNDARY -/

theorem exec_samplePeriod (edge : Bool) (levels : BenchLevels) (s : State) (hp : s.power = .running)
    (hr : s.resetLine = false) :
    exec (.samplePeriod edge levels) s = .next (s.samplePeriod edge levels) := by
  show execSamplePeriod edge levels s = _
  simp [execSamplePeriod, hp, hr]

theorem exec_blockBoundary (k : Nat) (s : State) : exec (.blockBoundary k) s =
    .next (if s.live && !s.turned && (s.reachTurned k).turned then s.reachTurned k else s) := rfl

theorem State.boundaryDue_iff (s : State) : s.boundaryDue = true ↔ s.live = true ∧ s.inPeriod = true ∧
    s.stage = .idle ∧ s.clockRuns = true ∧ s.proc.clock % 480 = 479 := by
  simp [State.boundaryDue, and_assoc]

theorem State.clockRuns_iff (s : State) :
    s.clockRuns = true ↔ s.proc.state ≠ .closed ∧ s.proc.opening = false := by
  simp [State.clockRuns, State.sessionOpen_iff]

/-- Within a Block Period a SAMPLE_PERIOD ends one period and starts the next (log entry 6). -/
theorem State.samplePeriod_within (s : State) (edge : Bool) (levels : BenchLevels) (hs : s.stage = .idle)
    (hin : s.inPeriod = true) (hd : s.boundaryDue = false) :
    s.samplePeriod edge levels = s.endPeriod.startPeriod edge levels := by
  obtain ⟨_, _, _, _, _, _, _, hend, _⟩ := s.endPeriod_keeps
  have hidle : s.endPeriod.stage = .idle := by rw [hend]; exact hs
  simp only [State.samplePeriod, hd, hin, Bool.false_eq_true, if_false, if_true,
    s.endPeriod.finishBoundary_idle hidle]

/-- With no period in progress, what is left of an open boundary comes before the start (log entry 7). -/
theorem State.samplePeriod_first (s : State) (edge : Bool) (levels : BenchLevels) (hin : s.inPeriod = false) :
    s.samplePeriod edge levels = s.finishBoundary.startPeriod edge levels := by
  simp only [State.samplePeriod, s.boundaryDue_not_inPeriod hin, hin, Bool.false_eq_true, if_false]

theorem State.finishBoundary_turned (s : State) (h : s.turned = true) : s.finishBoundary = s.finishTurned := by
  cases hs : s.stage with
  | idle => simp [State.turned, hs] at h
  | begun => simp [State.turned, hs] at h
  | turned next wait => simp only [State.finishBoundary, hs]

/-- The end of a Block Period: its boundary's work, in the model's order, comes before the start (log entry 7). -/
theorem State.samplePeriod_boundary (s : State) (edge : Bool) (levels : BenchLevels) (hd : s.boundaryDue = true) :
    s.samplePeriod edge levels = (s.beginBoundary.turn 0).finishTurned.startPeriod edge levels := by
  have hbegun : s.beginBoundary.finishBoundary = (s.beginBoundary.turn 0).finishTurned := by
    simp only [State.finishBoundary, State.beginBoundary]
  simp only [State.samplePeriod, hd, if_true, hbegun]

theorem State.reachTurned_due (s : State) (k : Nat) (hd : s.boundaryDue = true) :
    s.reachTurned k = s.beginBoundary.turn k := by
  have hbegun : s.reachBegun = s.beginBoundary := by rw [State.reachBegun, if_pos hd]
  simp only [State.reachTurned, hbegun]
  simp only [State.beginBoundary]

/-- BLOCK_BOUNDARY where it is due brings the boundary to where the finished Block is dealt with. -/
theorem exec_blockBoundary_due (k : Nat) (s : State) (hd : s.boundaryDue = true) :
    exec (.blockBoundary k) s = .next (s.beginBoundary.turn k) := by
  obtain ⟨hlive, _, hidle, _, _⟩ := s.boundaryDue_iff.1 hd
  obtain ⟨_, _, _, _, _, _, _, _, _, _, _, _, hturned⟩ := s.beginBoundary.turn_keeps k
  have hopen : s.turned = false := by simp [State.turned, hidle]
  rw [exec_blockBoundary, s.reachTurned_due k hd, hlive, hopen, hturned]
  exact congrArg _ (if_pos rfl)

theorem State.applySettings_keeps (s : State) :
    ∃ a w c, s.applySettings = { s with activity := a, settings := w, changes := c } := by
  unfold State.applySettings
  exact ⟨_, _, _, rfl⟩

theorem State.beginBoundary_keeps (s : State) : ∃ a w c, s.beginBoundary =
    { s.endPeriod with stage := .begun, activity := a, settings := w, changes := c } := by
  obtain ⟨a, w, c, h⟩ := s.endPeriod.applySettings_keeps
  rw [State.beginBoundary, h]
  generalize s.endPeriod = v
  exact ⟨a, w, c, rfl⟩

/-- What stands once a due boundary's finished Block is dealt with: the end of its last period, and one Block Period
more (R16, R79, R95). -/
theorem State.boundary_turned (s : State) (k : Nat) (hd : s.boundaryDue = true) :
    ∃ u, s.beginBoundary.turn k = u ∧ u.turned = true ∧ u.inPeriod = false ∧ u.power = s.power ∧
      u.resetLine = s.resetLine ∧ u.frameSyncs = s.frameSyncs ∧
      u.clockUnit = s.clockUnit.examine.settled (!s.sessionOpen) ∧
      (∀ i : Fin 8, u.links[i] = { s.settledLink i with heard := false }) ∧
      (∀ l : Line, u.proc.lines.get l = (s.proc.lines.get l).settled) ∧
      u.proc.clock = s.proc.clock + 1 ∧ u.proc.periods = s.proc.periods + 1 := by
  obtain ⟨_, _, _, hruns, _⟩ := s.boundaryDue_iff.1 hd
  obtain ⟨l, x, b, t, r, e, m, hend, hlinks, hlines, hclock, hperiods, _⟩ := s.endPeriod_keeps
  obtain ⟨a, w, c, hbegin⟩ := s.beginBoundary_keeps
  obtain ⟨i, t', a', f, g, r', e', m', y, rs, rec, hturn, hturned⟩ := s.beginBoundary.turn_keeps k
  refine ⟨_, rfl, hturned, ?_⟩
  rw [hturn, hbegin, hend]
  rw [if_pos hruns] at hclock
  exact ⟨rfl, rfl, rfl, rfl, rfl, hlinks, hlines, hclock, congrArg (· + 1) hperiods⟩

/-! ### SAMPLE_PERIOD as a whole -/

/-- What the end of a period that has its house edge or lack of one leaves of the links and the house clock, in a
later state (R1, R3, R17 to R19). -/
structure State.EndsPeriod (s t : State) : Prop where
  links : ∀ i : Fin 8, t.links[i] = { s.settledLink i with heard := false }
  present : t.clockUnit.housePresent = s.clockUnit.examine.housePresent
  edgeless : t.clockUnit.edgeless = s.clockUnit.examine.edgeless
  lost : ∀ e, s.clockUnit.edge = some e → s.clockUnit.state = .house → s.clockUnit.examine.edgeless = 3 →
    t.clockUnit.state = .fallback
  back : s.proc.state = .closed → s.clockUnit.state = .fallback → s.clockUnit.examine.housePresent = 48000 →
    t.clockUnit.state = .house
  same : ¬(s.clockUnit.state = .house ∧ s.clockUnit.examine.edgeless = 3) →
    ¬(s.proc.state = .closed ∧ s.clockUnit.state = .fallback ∧ s.clockUnit.examine.housePresent = 48000) →
    t.clockUnit.state = s.clockUnit.state

theorem State.EndsPeriod.of_settled {s t : State} {edge : Option Bool}
    (hl : ∀ i : Fin 8, t.links[i] = { s.settledLink i with heard := false })
    (hu : t.clockUnit = { s.clockUnit.examine.settled (!s.sessionOpen) with edge := edge }) :
    s.EndsPeriod t := by
  obtain ⟨hpresent, hedgeless, _⟩ := s.clockUnit.examine.settled_counts (!s.sessionOpen)
  have hstate : t.clockUnit.state = (s.clockUnit.examine.settled (decide (s.proc.state = .closed))).state := by
    rw [hu, ← s.not_sessionOpen]
  have hsame := s.clockUnit.examine_state
  refine ⟨hl, by rw [hu]; exact hpresent, by rw [hu]; exact hedgeless, fun e he hs hk => ?_,
    fun hc hs hp => ?_, fun hno hnb => ?_⟩
  · exact hstate.trans
      (ClockUnit.settled_lost _ _ (hsame.trans hs) hk (s.clockUnit.examine_lost_absent he hk))
  · rw [hstate, decide_eq_true hc]
    exact ClockUnit.settled_back _ (hsame.trans hs) hp
  · refine hstate.trans ((ClockUnit.settled_same _ _ ?_ ?_).trans hsame)
    · rw [hsame]; exact hno
    · rw [hsame, decide_eq_true_iff]; exact hnb

theorem State.samplePeriod_within_keeps (s : State) (edge : Bool) (levels : BenchLevels) (hs : s.stage = .idle)
    (hin : s.inPeriod = true) (hd : s.boundaryDue = false) :
    ∃ t, s.samplePeriod edge levels = t ∧ t.inPeriod = true ∧ t.frameSyncs = s.frameSyncs + 1 ∧
      t.proc.opening = false ∧ t.proc.clock = (if s.clockRuns then s.proc.clock + 1 else s.proc.clock) ∧
      t.proc.periods = s.proc.periods ∧ t.ring = s.ring ∧ t.stage = .idle ∧ s.EndsPeriod t ∧
      t.clockUnit.edge = some edge ∧
      (∀ l : Line, t.proc.lines.get l = (s.proc.lines.get l).settled.sample (levelOf levels l) t.proc.clock
        (decide (t.proc.state = .closed))) ∧
      t.events = s.endPeriod.events ∧ t.marks = s.endPeriod.marks := by
  obtain ⟨l, x, b, t, r, e, m, hend, hlinks, hlines, hclock, hperiods, _⟩ := s.endPeriod_keeps
  obtain ⟨b', t', y, hstart, _⟩ := s.endPeriod.startPeriod_keeps edge levels
  have hlast : ∀ k : Line, s.endPeriod.proc.lines.get k = (s.proc.lines.get k).settled := by
    rw [hend]; exact hlines
  have hsample := s.endPeriod.startPeriod_lines edge levels
  refine ⟨_, s.samplePeriod_within edge levels hs hin hd, ?_⟩
  refine ⟨?_, ?_, ?_, ?_, ?_, ?_, ?_, .of_settled (edge := some edge) ?_ ?_, ?_, fun k => ?_, ?_, ?_⟩
  · rw [hstart]
  · rw [hstart, hend]
  · rw [hstart]
  · rw [hstart, hend]; exact hclock
  · rw [hstart, hend]; exact hperiods
  · rw [hstart, hend]
  · rw [hstart, hend]; exact hs
  · rw [hstart, hend]; exact hlinks
  · rw [hstart, hend]
  · rw [hstart]
  · rw [← hlast]; exact hsample k
  · rw [hstart]
  · rw [hstart]

/-- After BLOCK_BOUNDARY a SAMPLE_PERIOD does what it would have done before it (log entry 7). -/
theorem State.samplePeriod_after_turn (s : State) (edge : Bool) (levels : BenchLevels)
    (hd : s.boundaryDue = true) :
    (s.beginBoundary.turn 0).samplePeriod edge levels = s.samplePeriod edge levels := by
  obtain ⟨u, hu, hturned, hin, _⟩ := s.boundary_turned 0 hd
  rw [s.samplePeriod_boundary edge levels hd, hu, u.samplePeriod_first edge levels hin,
    u.finishBoundary_turned hturned]

theorem State.samplePeriod_boundary_keeps (s : State) (edge : Bool) (levels : BenchLevels)
    (hd : s.boundaryDue = true) :
    ∃ t, s.samplePeriod edge levels = t ∧ t.stage = .idle ∧ t.inPeriod = true ∧
      t.frameSyncs = s.frameSyncs + 1 ∧ t.proc.periods = s.proc.periods + 1 ∧
      t.proc.clock = s.proc.clock + 1 ∧ t.clockUnit.edge = some edge ∧
      ∀ l : Line, t.proc.lines.get l = (s.proc.lines.get l).settled.sample (levelOf levels l) t.proc.clock
        (decide (t.proc.state = .closed)) := by
  obtain ⟨u, hu, _, _, _, _, hsyncs, _, _, hlines, hclock, hperiods⟩ := s.boundary_turned 0 hd
  obtain ⟨hkeeps, hdone⟩ := u.finishTurned_keeps
  obtain ⟨b, t, y, hstart, _⟩ := u.finishTurned.startPeriod_keeps edge levels
  have hsample := u.finishTurned.startPeriod_lines edge levels
  refine ⟨_, s.samplePeriod_boundary edge levels hd, ?_⟩
  rw [hu]
  refine ⟨?_, ?_, ?_, ?_, ?_, ?_, fun l => ?_⟩
  · rw [hstart]; exact hdone
  · rw [hstart]
  · rw [hstart]; exact congrArg (· + 1) (hkeeps.frameSyncs.trans hsyncs)
  · rw [hstart]; exact hkeeps.periods.trans hperiods
  · rw [hstart]; exact hkeeps.clock.trans hclock
  · rw [hstart]
  · rw [← hlines, ← hkeeps.lines]; exact hsample l

/-- Settles O35: the end of a period and the start of one by `State.samplePeriod_within_keeps`, the boundary before it
by `State.boundary_turned` and `State.samplePeriod_boundary_keeps`. -/
theorem samplePeriods : Obligations.SamplePeriods := by
  unfold Obligations.SamplePeriods
  intro level settled sampled present edgeless ended
  have hpresent : ∀ u : ClockUnit, u.examine.housePresent = present u := fun u => by
    obtain ⟨c, n, k, _ | _ | _⟩ := u <;> rfl
  have hedgeless : ∀ u : ClockUnit, u.examine.edgeless = edgeless u := fun u => by
    obtain ⟨c, n, k, _ | _ | _⟩ := u <;> rfl
  have hlevel : levelOf = level := by funext x l; cases l <;> rfl
  have hended : ∀ {s t : State}, s.EndsPeriod t → ended s t := fun {s t} h => by
    obtain ⟨hlinks, hp, hk, hlost, hback, hsame⟩ := h
    rw [hpresent] at hp hback hsame
    rw [hedgeless] at hk hlost hsame
    exact ⟨hlinks, hp, hk, fun e he => ⟨fun hl => hlost e he hl.1 hl.2,
      fun ⟨hc, hs, hn⟩ => hback hc hs hn, hsame⟩⟩
  refine ⟨fun edge levels s hp hr hs hin hd => ?_, fun edge levels s hp hr hs hin => ?_,
    fun edge levels s u hd hu => ?_⟩
  · have hlive : s.live = true := s.live_iff.2 ⟨hp, hr⟩
    obtain ⟨t, ht, hnow, hsyncs, hopening, hclock, hperiods, hring, hidle, hends, hedge, hlines, hevents,
      hmarks⟩ := s.samplePeriod_within_keeps edge levels hs hin hd
    have hflags : ∀ q f, s.endPeriod.flagged q f → t.flagged q f := State.FlagsKept.of_events hevents
    rw [hlevel] at hlines
    refine ⟨t, (exec_samplePeriod edge levels s hp hr).trans (congrArg _ ht), hnow, hsyncs, hopening,
      hclock.trans (if_congr s.clockRuns_iff rfl rfl), hperiods, hring, hidle, hended hends, hedge, hlines,
      fun i hh hsl hdown q => ?_, fun e he => ⟨fun ⟨hh, hl⟩ q => ?_, fun hc hf hb q => ?_,
        fun hheard hcount => ⟨fun ⟨hh, hl⟩ => ?_, fun hl => ?_⟩⟩⟩
    · exact hflags q _ (s.endPeriod_flagged_link i hh (by rw [hsl, hdown]; rfl) q)
    · exact hflags q _ (s.endPeriod_flagged_lost hlive hh ((hedgeless _).trans hl) q)
    · exact hflags q _ (s.endPeriod_flagged_back hlive hc hf ((hpresent _).trans hb) q)
    · exact hmarks.trans (s.endPeriod_marks_lost hlive hheard hcount hh ((hedgeless _).trans hl))
    · exact hmarks.trans (s.endPeriod_marks_kept hheard hcount (by rw [hedgeless]; exact hl))
  · obtain ⟨b, t, y, hstart, _, hsame⟩ := s.startPeriod_keeps edge levels
    have hlines := s.startPeriod_lines edge levels
    rw [hlevel] at hlines
    refine ⟨s.startPeriod edge levels, ?_, by rw [hstart], by rw [hstart], hlines, by rw [hstart]; exact hsame⟩
    rw [exec_samplePeriod edge levels s hp hr, s.samplePeriod_first edge levels hin, s.finishBoundary_idle hs]
  · obtain ⟨v, hv, _, _, hpower, hreset, _, hclock, hlinks, hsettled, _⟩ := s.boundary_turned 0 hd
    obtain ⟨t, ht, hidle, hnow, hsyncs, hperiods, htime, hedge, hlines⟩ :=
      s.samplePeriod_boundary_keeps edge levels hd
    obtain ⟨_, _, hcounted⟩ := s.clockUnit.examine.settled_counts (!s.sessionOpen)
    obtain ⟨hp, hr⟩ := s.live_iff.1 (s.boundaryDue_iff.1 hd).1
    rw [exec_blockBoundary_due 0 s hd, hv] at hu
    obtain rfl : v = u := by injection hu
    rw [hlevel] at hlines
    have hs := exec_samplePeriod edge levels s hp hr
    have hsame : exec (.samplePeriod edge levels) s = exec (.samplePeriod edge levels) v := by
      rw [hs, exec_samplePeriod edge levels v (hpower.trans hp) (hreset.trans hr), ← hv,
        s.samplePeriod_after_turn edge levels hd]
    exact ⟨hended (.of_settled (edge := v.clockUnit.edge) hlinks (by rw [hclock])),
      by rw [hclock, hcounted, ClockUnit.examine_edge], hsettled, hsame, t, hs.trans (congrArg _ ht), hidle, hnow,
      hsyncs, hperiods, htime, hedge, hlines⟩

end Sys2Proof.Machine
end

section
/-! The Plan Unit: edits of the Pending Plan, validation, and ACTIVATE_PLAN (R27 to R38). -/

namespace Sys2Proof.Machine

/-! ### Write commands -/

theorem exec_planClear (p : Port) (f : Frame) (s : State) :
    exec (.planClear p f) s = .next (s.writeFrame p f 0 fun t _ => t.planClear p) := rfl

theorem exec_planSetGroup (p : Port) (f : Frame) (s : State) : exec (.planSetGroup p f) s =
    .next (s.writeFrame p f 4 fun t bs =>
      t.planSetGroup p (param bs 0).toNat (param bs 1).toNat (param bs 2).toNat (param bs 3)) := rfl

theorem exec_planSetFormat (p : Port) (f : Frame) (s : State) : exec (.planSetFormat p f) s =
    .next (s.writeFrame p f 2 fun t bs => t.planSetFormat p (param bs 0).toNat (param bs 1).toNat) := rfl

theorem exec_activatePlan (p : Port) (f : Frame) (s : State) : exec (.activatePlan p f) s =
    .next (s.writeFrame p f 2 fun t bs => t.activatePlan (BitVec.ofNat 16 (number bs 0 2))) := rfl

/-- A write command whose Frame holds exactly its parameter bytes gives the Result and the state that they are
answered with (R170, R172). -/
theorem State.writeFrame_answers (s : State) (p : Port) (f : Frame) {bs : List Byte}
    {act : State → List Byte → Result × State} {r : Result} {t : State} (htakes : s.takes p f)
    (hhears : s.hears p f bs) (hact : act (s.shifted p f) bs = (r, t)) :
    s.writeFrame p f bs.length act = t.setResult p r := by
  rw [s.writeFrame_exact p f bs act htakes hhears, hact]

/-- A number field read back where it was sent, if it fits its bytes (R198). -/
theorem number_le (n v : Nat) (h : v < 256 ^ n) : number (le n v) 0 n = v := by
  rw [number, List.drop_zero, List.take_of_length_le (le_length n v).le, leNat_le, Nat.mod_eq_of_lt h]

/-! ### Editing the Pending Plan -/

theorem modeOfCode_undefined {code : Byte} (h : 4 < code.toNat) : modeOfCode code = none := by
  obtain ⟨n, hn⟩ : ∃ n, code.toNat = n + 5 := ⟨code.toNat - 5, by omega⟩
  simp [modeOfCode, hn]

theorem State.planSetGroup_entry_range (s : State) (p : Port) {entry : Nat} (first count : Nat) (code : Byte)
    (h : 15 < entry) : s.planSetGroup p entry first count code = (.range, s) := by
  unfold State.planSetGroup
  exact dif_neg (by omega)

theorem State.planSetGroup_code_range (s : State) (p : Port) (entry first count : Nat) {code : Byte}
    (h : 4 < code.toNat) : s.planSetGroup p entry first count code = (.range, s) := by
  unfold State.planSetGroup
  rw [modeOfCode_undefined h]
  exact dite_eq_right_iff.2 fun _ => rfl

/-- An accepted PLAN_SET_GROUP writes its entry, or vacates it (R29). -/
theorem State.planSetGroup_accepted (s : State) (p : Port) (i : Fin 16) (first count : Nat) {code : Byte}
    {mode : Option GroupMode} (h : modeOfCode code = some mode) :
    s.planSetGroup p i first count code = (.ok, { s with plans := s.plans.edit p { s.plans.pendingPlan with
      entries := s.plans.pendingPlan.entries.set i (mode.map fun m => ⟨m, first, count⟩) } }) := by
  unfold State.planSetGroup
  rw [dif_pos i.isLt, h]

theorem State.planSetFormat_range (s : State) (p : Port) {width : Nat} (total : Nat) (h16 : width ≠ 16)
    (h24 : width ≠ 24) : s.planSetFormat p width total = (.range, s) := by
  unfold State.planSetFormat
  rw [if_neg h16, if_neg h24]

/-- Settles O25: each command by what its edit answers (R28 to R30). -/
theorem planEdits : Obligations.PlanEdits := by
  unfold Obligations.PlanEdits
  intro p f s htakes edited old
  refine ⟨fun hbare => ?_, fun e first count code hhears => ?_, fun w total hhears => ?_⟩
  · rw [exec_planClear, s.writeFrame_bare p f _ htakes hbare]
    rfl
  · have hanswer : ∀ {r t}, (s.shifted p f).planSetGroup p e.toNat first.toNat count.toNat code = (r, t) →
        exec (.planSetGroup p f) s = .next (t.setResult p r) := fun h =>
      (exec_planSetGroup p f s).trans (congrArg _ (s.writeFrame_answers p f htakes hhears h))
    refine ⟨fun hrange => ?_, fun i hi group hgroup => ?_⟩
    · obtain he | hcode := hrange
      · exact hanswer (State.planSetGroup_entry_range _ p _ _ _ he)
      · exact hanswer (State.planSetGroup_code_range _ p _ _ _ hcode)
    · rw [hi] at hanswer
      have hset : ∀ mode, modeOfCode code = some mode →
          exec (.planSetGroup p f) s = .next (edited { old with
            entries := old.entries.set i (mode.map fun m => ⟨m, first.toNat, count.toNat⟩) }) := fun mode hm =>
        hanswer (State.planSetGroup_accepted _ p i _ _ hm)
      obtain ⟨rfl, rfl⟩ | ⟨rfl, rfl⟩ | ⟨rfl, rfl⟩ | ⟨rfl, rfl⟩ | ⟨rfl, rfl⟩ := hgroup
      · exact hset none rfl
      · exact hset (some .direct) rfl
      · exact hset (some .sum) rfl
      · exact hset (some .half) rfl
      · exact hset (some .third) rfl
  · have hanswer : ∀ {r t}, (s.shifted p f).planSetFormat p w.toNat total.toNat = (r, t) →
        exec (.planSetFormat p f) s = .next (t.setResult p r) := fun h =>
      (exec_planSetFormat p f s).trans (congrArg _ (s.writeFrame_answers p f htakes hhears h))
    refine ⟨fun h16 h24 => hanswer (State.planSetFormat_range _ p _ ?_ ?_), ?_, ?_⟩
    · exact fun h => h16 (BitVec.eq_of_toNat_eq h)
    · exact fun h => h24 (BitVec.eq_of_toNat_eq h)
    · rintro rfl
      exact hanswer rfl
    · rintro rfl
      exact hanswer rfl

/-! ### Validation (Table 2.2) -/

theorem GroupMode.defined_iff (m : GroupMode) : m.defined = true ↔ ∀ c, m ≠ .undefined c := by
  cases m <;> simp [GroupMode.defined]

theorem Group.inRange_iff (g : Group) : g.inRange = true ↔
    1 ≤ g.count ∧ g.first + g.count ≤ 32 ∧ ∀ c, g.mode ≠ .undefined c := by
  simp [Group.inRange, GroupMode.defined_iff, and_assoc]

theorem Group.sumWidthOk_iff (g : Group) :
    g.sumWidthOk = true ↔ (g.mode = .sum → 2 ≤ g.count ∧ g.count ≤ 4) := decide_eq_true_iff

theorem Group.mem_channels (g : Group) (c : Nat) :
    c ∈ g.channels ↔ g.first ≤ c ∧ c < g.first + g.count := by
  simp only [Group.channels, List.mem_map, List.mem_range]
  exact ⟨fun ⟨i, hi, hc⟩ => by omega, fun h => ⟨c - g.first, by omega, by omega⟩⟩

/-- Two Groups that cover a Channel each share none exactly when one ends before the other begins. -/
theorem Group.apart_iff {g h : Group} (hg : 1 ≤ g.count) (hh : 1 ≤ h.count) :
    g.apart h = true ↔ ∀ c, ¬(c ∈ g.channels ∧ c ∈ h.channels) := by
  simp only [Group.apart, decide_eq_true_iff, Group.mem_channels]
  refine ⟨fun hap c hc => by omega, fun hnone => ?_⟩
  have := hnone (max g.first h.first)
  omega

theorem groupsApart_iff_pairwise (gs : List Group) :
    groupsApart gs = true ↔ gs.Pairwise fun g h => g.apart h = true := by
  induction gs with
  | nil => simp [groupsApart]
  | cons g gs ih => simp [groupsApart, ih]

theorem groupsApart_iff {gs : List Group} (hcount : ∀ g ∈ gs, 1 ≤ g.count) : groupsApart gs = true ↔
    gs.Pairwise fun g h => ∀ c, ¬(c ∈ g.channels ∧ c ∈ h.channels) :=
  (groupsApart_iff_pairwise gs).trans
    (List.Pairwise.iff_of_mem fun hg hh => Group.apart_iff (hcount _ hg) (hcount _ hh))

theorem Group.tracks_length (g : Group) : g.tracks.length = g.trackCount := by
  obtain ⟨mode, first, count⟩ := g
  cases mode <;> simp [Group.tracks, Group.trackCount, Group.channels]

theorem Plan.tracks_length (p : Plan) : p.tracks.length = p.trackCount := by
  simp only [Plan.tracks, Plan.trackCount, List.length_flatMap, Group.tracks_length]

/-- The six checks of Table 2.2 in their order, each given by what it says. -/
theorem Plan.fault_of_checks (p : Plan) {ranged sums apart total fits : Prop}
    (hranged : p.groups.all Group.inRange = true ↔ ranged)
    (hsums : p.groups.all Group.sumWidthOk = true ↔ sums)
    (hapart : ranged → (groupsApart p.groups = true ↔ apart))
    (htotal : ¬(p.trackCount ≠ p.total ∨ p.trackCount > 32) ↔ total)
    (hfits : ¬p.bodyLength > 32512 ↔ fits) :
    (p.fault = none ↔ p.groups ≠ [] ∧ ranged ∧ sums ∧ apart ∧ total ∧ fits) ∧
    (¬p.groups ≠ [] → p.fault = some .planEmpty) ∧
    (p.groups ≠ [] → ¬ranged → p.fault = some .planRange) ∧
    (p.groups ≠ [] → ranged → ¬sums → p.fault = some .planSumWidth) ∧
    (p.groups ≠ [] → ranged → sums → ¬apart → p.fault = some .planOverlap) ∧
    (p.groups ≠ [] → ranged → sums → apart → ¬total → p.fault = some .planTotal) ∧
    (p.groups ≠ [] → ranged → sums → apart → total → ¬fits → p.fault = some .planSize) := by
  obtain rfl := propext hranged
  obtain rfl := propext hsums
  obtain rfl := propext htotal
  obtain rfl := propext hfits
  rw [Plan.fault]
  by_cases hf : p.groups = []
  · simp [hf]
  by_cases hr : p.groups.all Group.inRange = true
  · have ha := hapart hr
    by_cases hs : p.groups.all Group.sumWidthOk = true
    · obtain rfl := propext ha
      by_cases ho : groupsApart p.groups = true
      · by_cases ht : p.trackCount ≠ p.total ∨ p.trackCount > 32
        · simp only [hf, hr, hs, ho, ht, if_true, if_false]; simp [hf]
        · by_cases hb : p.bodyLength > 32512
          · simp only [hf, hr, hs, ho, ht, hb, if_true, if_false]; simp [hf]
          · simp only [hf, hr, hs, ho, ht, hb, if_false]; simp [hf]
      · simp only [hf, hr, hs, ho, if_false]; simp [hf]
    · simp only [hf, hr, hs, if_false]; simp [hf]
  · simp only [hf, hr, if_false]; simp [hf]

/-- Settles O26: the six checks of `Plan.fault` say what Table 2.2 says. -/
theorem planValidation : Obligations.PlanValidation := by
  unfold Obligations.PlanValidation
  intro plan filled ranged sums apart total fits
  refine plan.fault_of_checks ?_ ?_ (fun hranged => groupsApart_iff fun g hg => (hranged g hg).1) ?_ Nat.not_lt
  · simp only [List.all_eq_true, Group.inRange_iff, ranged]
  · simp only [List.all_eq_true, Group.sumWidthOk_iff, sums]
  · simp only [total, Plan.tracks_length]
    omega

/-! ### ACTIVATE_PLAN -/

/-- The record is on or about to come on (R35). -/
theorem State.planLocked_iff (s : State) : s.planLocked = true ↔
    s.proc.state = .onRecord ∨ s.proc.state = .sidebar ∨ (s.proc.state = .offRecord ∧
      (s.proc.target.map Prod.fst = some .onRecord ∨ s.proc.target.map Prod.fst = some .sidebar)) := by
  unfold State.planLocked
  cases s.proc.state with
  | closed => simp
  | onRecord => simp
  | sidebar => simp
  | offRecord => rcases s.proc.target with _ | ⟨_ | _ | _ | _, who⟩ <;> simp

theorem State.activatePlan_stale (s : State) {expected : BitVec 16} (h : expected ≠ s.plans.editCount) :
    s.activatePlan expected = (.stale, s) := by
  unfold State.activatePlan
  exact if_pos h

theorem State.activatePlan_faulty (s : State) {r : Result} (h : s.plans.pendingPlan.fault = some r) :
    s.activatePlan s.plans.editCount = (r, s) := by
  simp [State.activatePlan, h]

/-- With the expected edit count and a plan that passes, the Proceedings State decides (R35 to R37). -/
theorem State.activatePlan_valid (s : State) (h : s.plans.pendingPlan.fault = none) :
    s.activatePlan s.plans.editCount =
      if s.planLocked then (.state, s)
      else if s.sessionOpen then
        (.ok, { s with plans := { s.plans with armed := some s.plans.pendingPlan } })
      else (.ok, s.activate s.plans.pendingPlan) := by
  simp [State.activatePlan, h]

/-- Settles O27: the outcomes of `State.activatePlan`, STATE exactly where `State.planLocked_iff` says. -/
theorem activatePlan : Obligations.ActivatePlan := by
  unfold Obligations.ActivatePlan
  intro p f v s htakes hhears plan locked
  have hnumber : BitVec.ofNat 16 (number (le 2 v.toNat) 0 2) = v := by
    rw [number_le 2 _ v.isLt, BitVec.ofNat_toNat, BitVec.setWidth_eq]
  have hanswer : ∀ {r t}, (s.shifted p f).activatePlan v = (r, t) →
      exec (.activatePlan p f) s = .next (t.setResult p r) := fun h =>
    (exec_activatePlan p f s).trans (congrArg _ (s.writeFrame_answers p f htakes hhears (by rw [hnumber]; exact h)))
  have hlocked : (s.shifted p f).planLocked = true ↔ locked := (s.shifted p f).planLocked_iff
  have hopen : (s.shifted p f).sessionOpen = true ↔ s.proc.state ≠ .closed := (s.shifted p f).sessionOpen_iff
  have hvalid := (s.shifted p f).activatePlan_valid
  refine ⟨fun hv => hanswer (State.activatePlan_stale _ hv), fun r hv hf => ?_, fun hv hf hl => ?_,
    fun hv hf hs hl => ?_, fun hv hf hs => ?_⟩ <;> subst hv
  · exact hanswer (State.activatePlan_faulty _ hf)
  · exact hanswer ((hvalid hf).trans (if_pos (hlocked.2 hl)))
  · exact hanswer ((hvalid hf).trans
      ((if_neg fun h => hl (hlocked.1 h)).trans (if_pos (hopen.2 (by simp [hs])))))
  · have hl : ¬locked := by simp [locked, hs]
    exact hanswer ((hvalid hf).trans
      ((if_neg fun h => hl (hlocked.1 h)).trans (if_neg fun h => hopen.1 h hs)))

end Sys2Proof.Machine
end

section
/-! The takings of an open Block Boundary: PLAN_ACTIVATE, PENDING_GAIN_APPLY and CLOCK_SOURCE_APPLY, and the FLOOR
Mark that comes last (R20, R21, R37, R38, R54, R55, R73). -/

namespace Sys2Proof.Machine

/-! ### The rows of the takings -/

theorem exec_planActivate (s : State) :
    exec .planActivate s = .next (s.atBoundary State.planDue State.takeArmed) := rfl

theorem exec_pendingTargetTake (s : State) :
    exec .pendingTargetTake s = .next (s.atBoundary State.targetDue State.takeTarget) := rfl

theorem exec_clockSourceApply (s : State) :
    exec .clockSourceApply s = .next (s.atBoundary State.sourceDue State.takeSource) := rfl

theorem exec_pendingGainApply (order : List (Fin 32)) (s : State) : exec (.pendingGainApply order) s =
    .next (s.atBoundary State.gainDue fun t => t.takeGains order) := rfl

/-! ### What is due -/

theorem State.closeDue_iff (s : State) (h : s.turned = true) :
    s.closeDue = true ↔ s.proc.state ≠ .closed ∧ s.closesHere = true := by
  simp [State.closeDue, h, State.sessionOpen_iff]

theorem State.closeDue_false (s : State) (hc : s.closesHere = false ∨ s.proc.state = .closed) : s.closeDue = false := by
  obtain h | h := hc <;> simp [State.closeDue, State.sessionOpen, h]

/-- While the closing is still to be made nothing that follows it may come (R37, R54). -/
theorem State.pastClose_eq (s : State) (h : s.turned = true) : s.pastClose = !s.closeDue := by
  simp [State.pastClose, h]

theorem State.atBoundary_not_due (s : State) (due : State → Bool) (act : State → State)
    (ht : s.turned = true) (hd : due s = false) : s.atBoundary due act = s := by
  simp [s.atBoundary_turned due act ht, hd]

theorem State.gainWaiting_iff (s : State) :
    s.gainWaiting = true ↔ ∃ k : Fin 32, s.changes.gain[k] ≠ none := by
  simp only [State.gainWaiting, List.any_eq_true, Vector.mem_toList_iff, Vector.mem_iff_getElem,
    Option.isSome_iff_ne_none]
  exact ⟨fun ⟨_, ⟨i, hi, rfl⟩, h⟩ => ⟨⟨i, hi⟩, h⟩, fun ⟨k, h⟩ => ⟨_, ⟨k, k.isLt, rfl⟩, h⟩⟩

theorem State.gainWaiting_false (s : State) (h : ∀ k : Fin 32, s.changes.gain[k] = none) :
    s.gainWaiting = false := by
  rw [← Bool.not_eq_true, State.gainWaiting_iff]
  exact fun ⟨k, hk⟩ => hk (h k)

/-! ### The Marks of the takings -/

/-- A taking's Mark is inserted while the Session is open, with the FLOOR Mark that may follow it, and not asked for
in CLOSED (R153; log entry 10). -/
theorem State.boundaryMark_eq (s : State) (q : MarkRequest) {next : ProceedingsState}
    {wait : Option (Nat × Option (Fin 32) × Bool)} (h : s.stage = .turned next wait)
    (hw : s.proc.state = .closed → wait = none) :
    s.boundaryMark q = if s.proc.state = .closed then s else (s.insertMark q).floorNext := by
  split
  · rename_i hc
    obtain rfl := hw hc
    exact s.boundaryMark_closed q h (by simp [State.sessionOpen, hc])
  · rename_i hc
    exact s.boundaryMark_open q h (s.sessionOpen_iff.2 hc)

theorem State.takeArmed_some (s : State) {plan : Plan} (h : s.plans.armed = some plan) :
    s.takeArmed = (s.activate plan).boundaryMark (deviceMark .plan s.proc.clock (s.plans.generation + 1)) := by
  unfold State.takeArmed
  rw [h]
  rfl

/-! ### Gain Codes -/

/-- The Gain Code of a Track number in effect, with the pending one of that number taken (R54). -/
def State.withGain (s : State) (k : Fin 32) (v : Nat) : State :=
  { s with
    settings := { s.settings with general := { s.settings.general with
      gain := s.settings.general.gain.set k v } }
    changes := { s.changes with gain := s.changes.gain.set k none } }

theorem State.takeGain_none (s : State) (k : Fin 32) (h : s.changes.gain[k] = none) : s.takeGain k = s := by
  unfold State.takeGain
  rw [h]

theorem State.takeGain_some (s : State) (k : Fin 32) {v : Nat} (h : s.changes.gain[k] = some v) :
    s.takeGain k = (s.withGain k v).boundaryMark (deviceMark .level s.proc.clock (levelArg k v)) := by
  unfold State.takeGain
  rw [h]
  rfl

/-- In CLOSED a Gain Code is taken without a Mark (R55, R153). -/
theorem State.takeGain_closed (s : State) (k : Fin 32) {next : ProceedingsState}
    (hs : s.stage = .turned next none) (hc : s.sessionOpen = false) :
    s.takeGain k = s ∨ ∃ v, s.takeGain k = s.withGain k v := by
  cases hk : s.changes.gain[k] with
  | none => exact .inl (s.takeGain_none k hk)
  | some v =>
    exact .inr ⟨v, (s.takeGain_some k hk).trans ((s.withGain k v).boundaryMark_closed _ hs hc)⟩

/-- The Gain Code of a Track number once what waits has been taken (R54). -/
def State.gainToCome (s : State) (k : Fin 32) : Nat := s.changes.gain[k].getD s.settings.general.gain[k]

theorem State.takeGain_pending (s : State) (j k : Fin 32) :
    (s.takeGain j).changes.gain[k] = if k = j then none else s.changes.gain[k] := by
  obtain ⟨g, r, e, m, h⟩ := s.takeGain_keeps j
  rw [h]
  simp [Vector.getElem_set, Fin.ext_iff, eq_comm]

theorem State.takeGain_gainToCome (s : State) (j k : Fin 32) : (s.takeGain j).gainToCome k = s.gainToCome k := by
  obtain ⟨g, r, e, m, h⟩ := s.takeGain_keeps j
  rw [h]
  by_cases hk : k = j
  · subst hk
    simp [State.gainToCome]
  · have hne : (j : Nat) ≠ k := fun h => hk (Fin.ext h.symm)
    simp [State.gainToCome, hne]

theorem State.foldl_takeGain_pending (s : State) (ks : List (Fin 32)) (k : Fin 32) :
    (ks.foldl State.takeGain s).changes.gain[k] = if k ∈ ks then none else s.changes.gain[k] := by
  induction ks generalizing s with
  | nil => simp
  | cons j ks ih =>
    rw [List.foldl_cons, ih, s.takeGain_pending]
    by_cases hk : k = j <;> simp [hk]

theorem State.foldl_takeGain_gainToCome (s : State) (ks : List (Fin 32)) (k : Fin 32) :
    (ks.foldl State.takeGain s).gainToCome k = s.gainToCome k := by
  induction ks generalizing s with
  | nil => rfl
  | cons j ks ih => rw [List.foldl_cons, ih, s.takeGain_gainToCome]

/-- Every Track number's Gain Code is the one that waited, if one did, and none waits (R54). -/
theorem State.takeGains_gain (s : State) (order : List (Fin 32)) (k : Fin 32) :
    (s.takeGains order).settings.general.gain[k] = s.changes.gain[k].getD s.settings.general.gain[k] ∧
      (s.takeGains order).changes.gain[k] = none := by
  have hnone : (s.takeGains order).changes.gain[k] = none :=
    (s.foldl_takeGain_pending _ k).trans (if_pos (List.mem_append_right _ (List.mem_finRange k)))
  have hcome : (s.takeGains order).gainToCome k = s.gainToCome k := s.foldl_takeGain_gainToCome _ k
  rw [State.gainToCome, hnone] at hcome
  exact ⟨hcome, hnone⟩

theorem State.foldl_takeGain_none (s : State) (ks : List (Fin 32)) (h : ∀ k : Fin 32, s.changes.gain[k] = none) :
    ks.foldl State.takeGain s = s := by
  induction ks with
  | nil => rfl
  | cons j ks ih => rw [List.foldl_cons, s.takeGain_none j (h j), ih]

theorem State.foldl_takeGain_single (s : State) {ks : List (Fin 32)} {k : Fin 32} (hk : k ∈ ks)
    (h : ∀ j : Fin 32, j ≠ k → s.changes.gain[j] = none) : ks.foldl State.takeGain s = s.takeGain k := by
  induction ks with
  | nil => exact absurd hk List.not_mem_nil
  | cons j ks ih =>
    rw [List.foldl_cons]
    by_cases hj : j = k
    · subst hj
      refine State.foldl_takeGain_none _ ks fun i => ?_
      rw [s.takeGain_pending]
      split
      · rfl
      · rename_i hi
        exact h i hi
    · rw [s.takeGain_none j (h j hj)]
      exact ih ((List.mem_cons.1 hk).resolve_left (Ne.symm hj))

/-- Where one Gain Code waits, its LEVEL Mark is the only one asked for (R54, R55). -/
theorem State.takeGains_single (s : State) (order : List (Fin 32)) {k : Fin 32} {v : Nat}
    (hk : s.changes.gain[k] = some v) (h : ∀ j : Fin 32, j ≠ k → s.changes.gain[j] = none) :
    s.takeGains order = (s.withGain k v).boundaryMark (deviceMark .level s.proc.clock (levelArg k v)) :=
  (s.foldl_takeGain_single (List.mem_append_right _ (List.mem_finRange k)) h).trans (s.takeGain_some k hk)

/-- In CLOSED the Gain Codes are taken with no Mark and no event (R55, R153). -/
theorem State.takeGains_closed (s : State) (order : List (Fin 32)) {next : ProceedingsState}
    (hs : s.stage = .turned next none) (hc : s.sessionOpen = false) :
    (s.takeGains order).marks = s.marks ∧ (s.takeGains order).events = s.events := by
  unfold State.takeGains
  generalize order ++ List.finRange 32 = ks
  induction ks generalizing s with
  | nil => exact ⟨rfl, rfl⟩
  | cons k ks ih =>
    rw [List.foldl_cons]
    obtain h | ⟨v, h⟩ := s.takeGain_closed k hs hc
    · rw [h]
      exact ih s hs hc
    · rw [h]
      exact ih (s.withGain k v) hs hc

/-! ### The clock source -/

/-- A pending source setting in effect: the unit where the setting says, and nothing told of it yet (R20). -/
def State.withSource (s : State) (src : ClockSource) : State :=
  { s with
    changes := { s.changes with source := none }
    settings := { s.settings with general := { s.settings.general with source := src } }
    clockUnit := { s.clockUnit with state := s.clockUnit.afterSetting src } }

/-- Taking a source setting sets CLOCK and asks for its Mark exactly when the source in use changes (R20, R21). -/
theorem State.takeSource_some (s : State) {src : ClockSource} (h : s.changes.source = some src) :
    s.takeSource =
      if (s.withSource src).sourceInUse = s.sourceInUse then s.withSource src
      else ((s.withSource src).raiseBoth .clock).boundaryMark
        (clockMark s.proc.clock (s.withSource src).sourceInUse) := by
  have happly : State.applySource { s with changes := { s.changes with source := none } } src =
      if (s.withSource src).sourceInUse = s.sourceInUse then s.withSource src
      else (s.withSource src).raiseBoth .clock := rfl
  unfold State.takeSource
  rw [h]
  dsimp only
  rw [happly]
  by_cases hsame : (s.withSource src).sourceInUse = s.sourceInUse
  · rw [if_pos hsame, if_pos hsame]
    exact if_pos hsame
  · rw [if_neg hsame, if_neg hsame]
    exact if_neg hsame

/-! ### The end of the boundary -/

theorem State.flushFloor_none (s : State) {next : ProceedingsState} (h : s.stage = .turned next none) :
    s.flushFloor = s := by
  simp [State.flushFloor, h]

/-- A FLOOR Mark that still waits is inserted (R73, R152). -/
theorem State.flushFloor_some (s : State) {next : ProceedingsState} {after : Nat} {holder : Option (Fin 32)}
    {restricted : Bool} (h : s.stage = .turned next (some (after, holder, restricted)))
    (ho : s.sessionOpen = true) : s.flushFloor =
      State.insertMark { s with stage := .turned next none } (s.floorRequest holder restricted) := by
  unfold State.flushFloor
  rw [h]
  refine (State.requestMark_open { s with stage := .turned next none } _ ho).trans ?_
  cases holder <;> rfl

theorem State.ifDue_false (s : State) (due : State → Bool) (act : State → State) (h : due s = false) :
    s.ifDue due act = s := by
  simp [State.ifDue, h]

/-- A boundary with nothing left to take ends with the FLOOR Mark that still waits (log entries 7, 10). -/
theorem State.finishTurned_nothing_due (s : State) (hclose : s.closeDue = false) (htarget : s.targetDue = false)
    (hplan : s.planDue = false) (hgain : s.gainDue = false) (hsource : s.sourceDue = false)
    (hreturn : s.boundaryReturnDue = false) : s.finishTurned = { s.flushFloor with stage := .idle } := by
  unfold State.finishTurned
  dsimp only
  rw [s.ifDue_false _ _ hclose, s.ifDue_false _ _ htarget, s.ifDue_false _ _ hplan, s.ifDue_false _ _ hgain,
    s.ifDue_false _ _ hsource, s.ifDue_false _ _ hreturn]

/-- A SAMPLE_PERIOD that finds an open boundary with nothing left to take does what it does once the boundary has
ended with its waiting FLOOR Mark. -/
theorem exec_samplePeriod_ended (edge : Bool) (levels : BenchLevels) (s last : State) (hl : s.live = true)
    (ht : s.turned = true) (hin : s.inPeriod = false)
    (hend : s.finishTurned = { last with stage := .idle }) :
    exec (.samplePeriod edge levels) s = exec (.samplePeriod edge levels) { last with stage := .idle } := by
  obtain ⟨hp, hr⟩ := s.live_iff.1 hl
  obtain ⟨hkeeps, hidle⟩ := s.finishTurned_keeps
  rw [← hend, exec_samplePeriod edge levels s hp hr,
    exec_samplePeriod edge levels s.finishTurned (hkeeps.power.trans hp) (hkeeps.resetLine.trans hr),
    s.samplePeriod_first edge levels hin, s.finishTurned.samplePeriod_first edge levels (hkeeps.inPeriod.trans hin),
    s.finishBoundary_turned ht, s.finishTurned.finishBoundary_idle hidle]

/-- Settles O48: what is due by `State.pastClose`, each taking by its own equation, and the last FLOOR Mark by
`State.finishTurned_nothing_due`. -/
theorem boundaryTakings : Obligations.BoundaryTakings := by
  unfold Obligations.BoundaryTakings
  intro s next wait hlive hstage hwait marked
  have hturned : s.turned = true := s.turned_of_stage hstage
  have hpast := s.pastClose_eq hturned
  have hmarked : ∀ (u : State) (q : MarkRequest), u.stage = s.stage → u.proc = s.proc →
      u.boundaryMark q = marked u q := fun u q hs hp => by
    rw [u.boundaryMark_eq q (hs.trans hstage) (by rw [hp]; exact hwait), hp]
  refine ⟨fun hopen hhere => ?_, fun hc => ?_, fun hopen hhere htarget harmed hgain hsource hreturn hin => ?_⟩
  · have hp : s.pastClose = false := by rw [hpast, (s.closeDue_iff hturned).2 ⟨hopen, hhere⟩]; rfl
    have hkept : ∀ due act, due s = false → s.atBoundary due act = s := fun due act =>
      s.atBoundary_not_due due act hturned
    refine ⟨?_, ?_, ?_, fun hin => ?_, fun order => ?_⟩
    · rw [exec_planActivate, hkept _ _ (by simp [State.planDue, hp])]
    · rw [exec_pendingTargetTake, hkept _ _ (by simp [State.targetDue, hp])]
    · rw [exec_clockSourceApply, hkept _ _ (by simp [State.sourceDue, hp])]
    · rw [exec_houseClockReturn, if_neg (by simp [hin]), hkept _ _ (by simp [State.boundaryReturnDue, hp])]
    · rw [exec_pendingGainApply, hkept _ _ (by simp [State.gainDue, hp])]
  · have hp : s.pastClose = true := by rw [hpast, s.closeDue_false hc]; rfl
    have htaken : ∀ due act, due s = true → s.atBoundary due act = act s := fun due act =>
      s.atBoundary_due due act hlive hturned
    refine ⟨fun plan harmed => ?_, fun order hwaits => ⟨s.takeGains order, ?_, s.takeGains_gain order, ?_⟩,
      fun src hsrc => ?_⟩
    · rw [exec_planActivate, htaken _ _ (by simp [State.planDue, hp, harmed]), s.takeArmed_some harmed,
        hmarked (s.activate plan) _ rfl rfl]
      rfl
    · rw [exec_pendingGainApply, htaken _ _ (by simp [State.gainDue, hp, s.gainWaiting_iff.2 hwaits])]
    · obtain ⟨x, c, g, r, e, m, hkeeps⟩ := s.takeGains_keeps order
      refine ⟨by rw [hkeeps], by rw [hkeeps], by rw [hkeeps], fun hclosed => ?_, fun k v hk hothers => ?_⟩
      · exact s.takeGains_closed order (hwait hclosed ▸ hstage) (by simp [State.sessionOpen, hclosed])
      · exact (s.takeGains_single order hk hothers).trans (hmarked (s.withGain k v) _ rfl rfl)
    · intro u
      have hu : u = s.withSource src := by
        simp only [u, State.withSource, ClockUnit.afterSetting]
        cases src with
        | internal => rfl
        | house => cases s.clockUnit.state <;> rfl
      have hexec : exec .clockSourceApply s = .next s.takeSource := by
        rw [exec_clockSourceApply, htaken _ _ (by simp [State.sourceDue, hp, hsrc])]
      rw [hexec, s.takeSource_some hsrc, ← hu]
      refine ⟨fun hsame => by rw [if_pos hsame], fun hnew => ?_⟩
      rw [if_neg hnew, hmarked (u.raiseBoth .clock) _ rfl rfl]
      rfl
  · intro last edge levels
    refine exec_samplePeriod_ended edge levels s last hlive hturned hin ?_
    have hlast : s.flushFloor = last := by
      obtain _ | ⟨after, holder, restricted⟩ := wait
      · exact s.flushFloor_none hstage
      · exact s.flushFloor_some hstage (s.sessionOpen_iff.2 hopen)
    have hreturnDue : s.returnDue = false := by
      rw [← Bool.not_eq_true, s.returnDue_iff]
      exact hreturn
    rw [s.finishTurned_nothing_due (s.closeDue_false (.inl hhere)) (by simp [State.targetDue, htarget])
      (by simp [State.planDue, harmed]) (by simp [State.gainDue, s.gainWaiting_false hgain])
      (by simp [State.sourceDue, hsource]) (by simp [State.boundaryReturnDue, hreturnDue]), hlast]

end Sys2Proof.Machine
end

section
/-! The Track Processor: the arithmetic of a sample, one Sample Period of a Track and of all Tracks of the Block in
progress, and the set-up of a Block Period (R42 to R50, R101). -/

namespace Sys2Proof.Machine

/-! ### Rounding and saturation (R44, R45) -/

theorem scaleDivisor_pos (w : Width) (m : GroupMode) : 0 < scaleDivisor w m := by
  cases w <;> cases m <;> simp [scaleDivisor, modeDivisor]

/-- A number from 0 up is rounded to the nearest multiple of `d`, and at a tie to the larger one (R44). -/
theorem roundQuotient_of_nonneg {p d : Int} (hp : 0 ≤ p) (hd : 0 < d) :
    2 * |p - roundQuotient p d * d| ≤ d ∧
      (2 * |p - roundQuotient p d * d| = d → |p| ≤ |roundQuotient p d * d|) := by
  rw [show roundQuotient p d = (p + d / 2) / d from if_pos hp]
  have hlow : (p + d / 2) / d * d ≤ p + d / 2 := Int.ediv_mul_le _ hd.ne'
  have hhigh : p + d / 2 < (p + d / 2) / d * d + d := by
    rw [← add_one_mul]
    exact Int.lt_ediv_add_one_mul_self _ hd
  generalize (p + d / 2) / d * d = m at hlow hhigh
  have hm := le_abs_self m
  rw [abs_of_nonneg hp]
  obtain ⟨h, _⟩ | ⟨h, _⟩ := abs_cases (p - m) <;> rw [h] <;> omega

theorem roundQuotient_neg {p : Int} (d : Int) (hp : p < 0) :
    roundQuotient p d = -roundQuotient (-p) d := by
  unfold roundQuotient
  rw [if_neg (by omega), if_pos (by omega)]

/-- The nearest integer to a quotient, a tie going away from zero (R44). -/
theorem roundQuotient_nearest (p : Int) {d : Int} (hd : 0 < d) :
    2 * |p - roundQuotient p d * d| ≤ d ∧
      (2 * |p - roundQuotient p d * d| = d → |p| ≤ |roundQuotient p d * d|) := by
  by_cases hp : 0 ≤ p
  · exact roundQuotient_of_nonneg hp hd
  · have hmirror := roundQuotient_of_nonneg (p := -p) (by omega) hd
    have hquotient : roundQuotient p d * d = -(roundQuotient (-p) d * d) := by
      rw [roundQuotient_neg d (by omega), neg_mul]
    have hdistance : |p - roundQuotient p d * d| = |-p - roundQuotient (-p) d * d| := by
      rw [hquotient, ← abs_neg]
      congr 1
      ring
    rw [hdistance, hquotient, abs_neg, ← abs_neg p]
    exact hmirror

theorem rangeBottom_lt_rangeTop (w : Width) : rangeBottom w < rangeTop w := by
  cases w <;> decide

/-- What is stored lies within its width's range, whatever was rounded (R45). -/
theorem inWidth_saturate (w : Width) (q : Int) : inWidth w (saturate w q) := by
  have h := rangeBottom_lt_rangeTop w
  unfold inWidth saturate
  split
  · omega
  · split <;> omega

theorem saturate_of_inWidth {w : Width} {q : Int} (h : inWidth w q) : saturate w q = q := by
  obtain ⟨hbottom, htop⟩ := h
  unfold saturate
  rw [if_neg (by omega), if_neg (by omega)]

theorem saturate_above {w : Width} {q : Int} (h : rangeTop w < q) : saturate w q = rangeTop w := if_pos h

theorem saturate_below {w : Width} {q : Int} (h : q < rangeBottom w) : saturate w q = rangeBottom w := by
  have hrange := rangeBottom_lt_rangeTop w
  unfold saturate
  rw [if_neg (by omega), if_pos h]

/-- A Clip is a rounded value outside the range (R45). -/
theorem isClip_iff (w : Width) (q : Int) : isClip w q = true ↔ ¬inWidth w q := by
  simp only [isClip, inWidth, decide_eq_true_iff]
  omega

/-- Settles O52: Table 3.3 mode by mode, then `roundQuotient_nearest` and the cases of `saturate`. -/
theorem sampleArithmetic : Obligations.SampleArithmetic := by
  unfold Obligations.SampleArithmetic
  intro w m gain sum d q unit
  obtain ⟨hnear, htie⟩ := roundQuotient_nearest (sum * gain) (scaleDivisor_pos w m)
  refine ⟨?_, ?_, ?_, scaleDivisor_pos w m, hnear, htie, inWidth_saturate w q,
    fun h => ⟨saturate_of_inWidth h, ?_⟩, (isClip_iff w q).2, saturate_above, saturate_below⟩
  · rintro (rfl | rfl) <;> cases w <;> rfl
  · rintro rfl
    cases w <;> rfl
  · rintro rfl
    cases w <;> rfl
  · rw [← Bool.not_eq_true, isClip_iff, not_not]
    exact h

/-! ### The worst Source State (R49, R50) -/

/-- `y` is the worst Source State among `seen`, LIVE being better than all. -/
def IsWorst (seen : List SourceState) (y : SourceState) : Prop :=
  (y = .live ∨ y ∈ seen) ∧ ∀ z ∈ seen, sourceRank z ≤ sourceRank y

theorem isWorst_nil : IsWorst [] .live := ⟨.inl rfl, nofun⟩

theorem worse_cases (x y : SourceState) :
    worse x y = x ∧ sourceRank y ≤ sourceRank x ∨ worse x y = y ∧ sourceRank x ≤ sourceRank y := by
  unfold worse
  split <;> [right; left] <;> exact ⟨rfl, by omega⟩

theorem isWorst_worse {xs ys : List SourceState} {x y : SourceState} (hx : IsWorst xs x) (hy : IsWorst ys y) :
    IsWorst (xs ++ ys) (worse x y) := by
  obtain ⟨hxin, hxmax⟩ := hx
  obtain ⟨hyin, hymax⟩ := hy
  obtain ⟨h, hle⟩ | ⟨h, hle⟩ := worse_cases x y <;> rw [h]
  · exact ⟨hxin.imp_right (List.mem_append_left ys), fun z hz => (List.mem_append.1 hz).elim (hxmax z)
      fun hz => (hymax z hz).trans hle⟩
  · exact ⟨hyin.imp_right (List.mem_append_right xs), fun z hz => (List.mem_append.1 hz).elim
      (fun hz => (hxmax z hz).trans hle) (hymax z)⟩

theorem isWorst_singleton (x : SourceState) : IsWorst [x] x := ⟨.inr (by simp), by simp⟩

theorem isWorst_worseOf (seen : Option SourceState) {xs : List SourceState} {x : SourceState}
    (h : IsWorst xs x) : IsWorst (seen.toList ++ xs) (worseOf seen x) := by
  cases seen with
  | none => exact h
  | some y => exact isWorst_worse (isWorst_singleton y) h

theorem isWorst_worstSource (xs : List ChannelSample) :
    IsWorst (xs.map ChannelSample.source) (worstSource xs) := by
  unfold worstSource
  suffices h : ∀ (seen : List SourceState) (y : SourceState), IsWorst seen y →
      IsWorst (seen ++ xs.map ChannelSample.source) (xs.foldl (fun w x => worse w x.source) y) from
    h [] .live isWorst_nil
  induction xs with
  | nil => simp
  | cons x xs ih =>
    intro seen y h
    have hx := ih _ _ (isWorst_worse h (isWorst_singleton x.source))
    rwa [List.append_assoc] at hx

/-- The Source State of an output sample is the worst of all that went into it (R49). -/
theorem TrackWork.isWorst_source (w : TrackWork) (inputs : List ChannelSample) :
    IsWorst (w.accState.toList ++ inputs.map ChannelSample.source) (w.source inputs) :=
  isWorst_worseOf w.accState (isWorst_worstSource inputs)

/-! ### One Sample Period of a Track (R43 to R50) -/

theorem formsSample_iff (mode : GroupMode) (j : Nat) : formsSample mode j = true ↔
    mode = .direct ∨ mode = .sum ∨ (mode = .half ∧ j % 2 = 1) ∨ (mode = .third ∧ j % 3 = 2) := by
  cases mode <;> simp [formsSample]

/-- The samples of an unfinished pair or triple wait in the accumulator (R43). -/
theorem TrackWork.take_waits (w : TrackWork) (width : Width) (gain : Nat) {j : Nat}
    (inputs : List ChannelSample) (h : formsSample w.spec.mode j = false) :
    w.take width gain j inputs =
      { w with accSum := w.sum inputs, accState := some (w.source inputs) } := by
  simp [TrackWork.take, h]

/-- Otherwise the output sample is formed, stored and measured (R43 to R50). -/
theorem TrackWork.take_forms (w : TrackWork) (width : Width) (gain : Nat) {j : Nat}
    (inputs : List ChannelSample) (h : formsSample w.spec.mode j = true) :
    w.take width gain j inputs = { w with
      accSum := 0
      accState := none
      peak := max w.peak (saturate width (scaled width w.spec.mode gain (w.sum inputs))).natAbs
      clips := if isClip width (scaled width w.spec.mode gain (w.sum inputs)) then w.clips + 1 else w.clips
      worst := some (worseOf w.worst (w.source inputs))
      samples := w.samples ++ [saturate width (scaled width w.spec.mode gain (w.sum inputs))] } := by
  simp [TrackWork.take, h]

theorem TrackWork.take_clips_iff (w : TrackWork) (width : Width) (gain j : Nat) (inputs : List ChannelSample) :
    (w.take width gain j inputs).clips = w.clips + 1 ↔ w.clipsNow width gain j inputs = true := by
  unfold TrackWork.clipsNow
  cases h : formsSample w.spec.mode j with
  | false => simp [w.take_waits width gain inputs h]
  | true =>
    rw [w.take_forms width gain inputs h]
    by_cases hc : isClip width (scaled width w.spec.mode gain (w.sum inputs)) = true <;> simp [hc]

/-! ### All Tracks of the Block in progress (R43, R46, R47) -/

theorem State.takeTracks_getElem? (s : State) (width : Width) (j k : Nat) (ws : List TrackWork) (i : Nat) :
    (s.takeTracks width j k ws)[i]? =
      ws[i]?.map fun w => w.take width (s.gainOf (k + i)) j (s.inputs w.spec) := by
  induction ws generalizing k i with
  | nil => rfl
  | cons w ws ih =>
    cases i with
    | zero => rfl
    | succ i => simpa [State.takeTracks, Nat.add_right_comm k 1 i, Nat.add_assoc] using ih (k + 1) i

theorem State.takeTracks_length (s : State) (width : Width) (j k : Nat) (ws : List TrackWork) :
    (s.takeTracks width j k ws).length = ws.length := by
  induction ws generalizing k with
  | nil => rfl
  | cons w ws ih => exact congrArg (· + 1) (ih (k + 1))

theorem State.clipping_getElem? (s : State) (width : Width) (j k : Nat) (ws : List TrackWork) (i : Nat) :
    (s.clipping width j k ws)[i]? =
      ws[i]?.map fun w => w.clipsNow width (s.gainOf (k + i)) j (s.inputs w.spec) := by
  induction ws generalizing k i with
  | nil => rfl
  | cons w ws ih =>
    cases i with
    | zero => rfl
    | succ i => simpa [State.clipping, Nat.add_right_comm k 1 i, Nat.add_assoc] using ih (k + 1) i

/-- Which Tracks of a Block in progress clip in this Sample Period (R45). -/
def State.clipsIn (s : State) (b : BlockInProgress) : List Bool :=
  s.clipping b.plan.width (s.proc.clock - b.time) 0 b.tracks

/-- A Block in progress whose Tracks have taken the samples of this Sample Period (R43). -/
def State.sampled (s : State) (b : BlockInProgress) : BlockInProgress :=
  { b with tracks := s.takeTracks b.plan.width (s.proc.clock - b.time) 0 b.tracks }

/-- The Track Processor's counts after the Clips of a Sample Period (R46, R47). -/
def TrackProcessor.counting (x : TrackProcessor) (clips : List Bool) : TrackProcessor :=
  { x with
    clips := Vector.ofFn fun i => if clips.getD i.val false then countTo 65535 x.clips[i] else x.clips[i]
    clipReported := x.clipReported || clips.any id }

theorem TrackProcessor.counting_keeps (x : TrackProcessor) (clips : List Bool) :
    (x.counting clips).last = x.last ∧ (x.counting clips).restrictedClip = x.restrictedClip := by
  simp only [TrackProcessor.counting, and_self]

/-- All Tracks take their samples, the Clips are counted, and CLIP is set at the first of a Block Period (R43, R46,
R47). -/
theorem State.trackPeriod_some (s : State) {b : BlockInProgress} (h : s.inProgress = some b) :
    s.trackPeriod = { s with
      inProgress := some (s.sampled b)
      tracks := s.tracks.counting (s.clipsIn b)
      events := if (s.clipsIn b).any id && !s.tracks.clipReported then (s.raiseBoth .clip).events
        else s.events } := by
  unfold State.trackPeriod
  rw [h]
  dsimp only
  rw [State.raiseBoth_ite]
  simp only [State.raiseBoth_events]
  rfl

/-- A Track of the Block in progress clips where its Clip count grows. -/
theorem State.clipsIn_iff (s : State) (b : BlockInProgress) (k : Nat) : (s.clipsIn b).getD k false = true ↔
    ∃ w, b.tracks[k]? = some w ∧ (w.take b.plan.width (trackAt s.settings.general.gain k 256)
      (s.proc.clock - b.time) (w.spec.channels.map s.channel)).clips = w.clips + 1 := by
  rw [List.getD_eq_getElem?_getD, State.clipsIn, State.clipping_getElem?, Nat.zero_add]
  simp only [TrackWork.take_clips_iff]
  cases b.tracks[k]? <;> simp [State.gainOf, State.inputs]

theorem State.any_clipsIn_iff (s : State) (b : BlockInProgress) :
    (s.clipsIn b).any id = true ↔ ∃ k, (s.clipsIn b).getD k false = true := by
  rw [List.any_eq_true]
  constructor
  · rintro ⟨c, hc, rfl⟩
    obtain ⟨k, hk⟩ := List.mem_iff_getElem?.1 hc
    exact ⟨k, by simp [List.getD_eq_getElem?_getD, hk]⟩
  · rintro ⟨k, hk⟩
    rw [List.getD_eq_getElem?_getD] at hk
    cases hc : (s.clipsIn b)[k]? with
    | none => simp [hc] at hk
    | some c => exact ⟨c, List.mem_of_getElem? hc, by simpa [hc] using hk⟩

/-! ### The Block Period and the Sample Period (R42, R43, R101) -/

theorem State.setUpIfFirst_first (s : State) (ho : s.sessionOpen = true) (hc : s.proc.clock % 480 = 0) :
    s.setUpIfFirst = s.setUpBlock := by
  simp [State.setUpIfFirst, ho, hc]

theorem State.setUpIfFirst_later (s : State) (h : s.sessionOpen = false ∨ s.proc.clock % 480 ≠ 0) :
    s.setUpIfFirst = s := by
  unfold State.setUpIfFirst
  exact if_neg (by simpa [imp_iff_not_or] using h)

theorem State.sampled_examineHouse (s : State) (b : BlockInProgress) : s.examineHouse.sampled b = s.sampled b := by
  unfold State.sampled
  show { b with tracks := s.examineHouse.takeTracks b.plan.width (s.proc.clock - b.time) 0 b.tracks } = _
  generalize b.tracks = ws, s.proc.clock - b.time = j, 0 = k
  congr 1
  induction ws generalizing k with
  | nil => rfl
  | cons w ws ih => exact congrArg (w.take b.plan.width (s.gainOf k) j (s.inputs w.spec) :: ·) (ih (k + 1))

theorem State.clipsIn_examineHouse (s : State) (b : BlockInProgress) : s.examineHouse.clipsIn b = s.clipsIn b := by
  unfold State.clipsIn
  show s.examineHouse.clipping b.plan.width (s.proc.clock - b.time) 0 b.tracks = _
  generalize b.tracks = ws, s.proc.clock - b.time = j, 0 = k
  induction ws generalizing k with
  | nil => rfl
  | cons w ws ih =>
    exact congrArg (w.clipsNow b.plan.width (s.gainOf k) j (s.inputs w.spec) :: ·) (ih (k + 1))

/-- The Track Processor does not look at the house clock. -/
theorem State.trackPeriod_examineHouse (s : State) : s.examineHouse.trackPeriod = s.trackPeriod.examineHouse := by
  cases h : s.inProgress with
  | none => simp [State.trackPeriod, h]
  | some b =>
    rw [s.trackPeriod_some h, State.trackPeriod_some s.examineHouse (b := b) h, s.clipsIn_examineHouse,
      s.sampled_examineHouse]
    rfl

theorem State.settleReturn_open (s : State) (h : s.sessionOpen = true) : s.settleReturn = s := by
  simp [State.settleReturn, h]

theorem State.countPeriod_runs (s : State) (h : s.clockRuns = true) : s.countPeriod =
    s.trackPeriod.setProc { s.trackPeriod.proc with clock := s.trackPeriod.proc.clock + 1 } := by
  simp [State.countPeriod, h]

/-- A Sample Period of an open Session in which no frame is missing, no line is accepted and the house clock is not
lost ends with the Track Processor's work and the count of the clock. -/
theorem State.endPeriod_quiet (s : State) (hr : s.clockRuns = true) (hh : ∀ i : Fin 8, s.links[i].heard = true)
    (hb : ∀ l : Line, (s.proc.lines.get l).count ≠ 960) (hl : s.examineHouse.lossDue = false) :
    ∃ l x u, s.endPeriod = { s.trackPeriod with inPeriod := false, links := l, proc := x, clockUnit := u } ∧
      x.clock = s.proc.clock + 1 := by
  have hloss : s.examineHouse.settleLoss = s.examineHouse := by
    unfold State.settleLoss
    rw [hl]
    rfl
  have hopen : s.examineHouse.sessionOpen = true := (Bool.and_eq_true_iff.1 hr).1
  obtain ⟨b, t, e, htracks, _⟩ := s.trackPeriod_keeps
  rw [s.endPeriod_eq, s.examined_heard hh hb, hloss, State.settleReturn_open _ hopen,
    State.countPeriod_runs s.examineHouse hr, s.trackPeriod_examineHouse]
  exact ⟨_, _, _, rfl, by simp [htracks]⟩

/-- Settles O53: `TrackWork.take` by its two cases, all Tracks by `State.tracksTaken` and its indices, and the rows
of a period by `State.endPeriod_quiet`. -/
theorem trackPeriods : Obligations.TrackPeriods := by
  unfold Obligations.TrackPeriods
  refine ⟨fun w width gain j inputs => ?_, fun p => ⟨rfl, rfl⟩, fun s b hb => ?_, fun s => ?_,
    fun edge levels s hlive hidle hin hopen hopening hclock hheard hcount hloss => ?_⟩
  · intro t forms sum q worstIn arrived
    have hforms : formsSample w.spec.mode j = true ↔ forms := formsSample_iff w.spec.mode j
    have hworst := w.isWorst_source inputs
    refine ⟨fun h => ⟨_, hworst, w.take_waits width gain inputs ?_⟩,
      fun h => ⟨_, isWorst_worseOf w.worst hworst, w.take_forms width gain inputs (hforms.2 h)⟩⟩
    rwa [← Bool.not_eq_true, hforms]
  · intro t after clips
    have hclips : ∀ k, (s.clipsIn b).getD k false = true ↔ clips k := s.clipsIn_iff b
    have hany : (s.clipsIn b).any id = true ↔ ∃ k, clips k :=
      (s.any_clipsIn_iff b).trans (exists_congr hclips)
    have ht : t = _ := s.trackPeriod_some hb
    clear_value t
    subst ht
    obtain ⟨hlast, hrestricted⟩ := s.tracks.counting_keeps (s.clipsIn b)
    refine ⟨rfl, ⟨_, rfl, s.takeTracks_length _ _ _ _, fun k w hk => ?_⟩, fun k => ?_, hlast, hrestricted, ?_,
      fun hsome hfirst q => ?_, fun hnone => ?_⟩
    · rw [s.takeTracks_getElem?, hk, Nat.zero_add]
      rfl
    · have hcount : (s.tracks.counting (s.clipsIn b)).clips[k] = if (s.clipsIn b).getD k.val false then
          countTo 65535 s.tracks.clips[k] else s.tracks.clips[k] := by
        simp [TrackProcessor.counting]
      exact ⟨fun hk => hcount.trans (if_pos ((hclips k).2 hk)),
        fun hk => hcount.trans (if_neg fun h => hk ((hclips k).1 h))⟩
    · rw [← hany]
      exact Bool.or_eq_true_iff
    · dsimp only
      rw [if_pos (by rw [hany.2 hsome, hfirst]; rfl)]
      cases q <;> rfl
    · refine if_neg ?_
      rw [Bool.and_eq_true, hany, not_and_or, not_exists]
      simpa using hnone
  · exact ⟨s.setUpIfFirst_first, s.setUpIfFirst_later⟩
  · obtain ⟨hp, hr⟩ := s.live_iff.1 hlive
    have hruns : s.clockRuns = true := by simp [State.clockRuns, hopen, hopening]
    have hwithin : s.boundaryDue = false := by
      rw [← Bool.not_eq_true, State.boundaryDue_iff]
      exact fun ⟨_, _, _, _, hlast⟩ => hclock hlast
    obtain ⟨l, x, u, hend, hx⟩ := s.endPeriod_quiet hruns hheard hcount hloss
    obtain ⟨i, t, y, hstart, _, hsame⟩ := s.endPeriod.startPeriod_keeps edge levels
    have hclock' : s.endPeriod.proc.clock % 480 ≠ 0 := by
      rw [hend]
      show x.clock % 480 ≠ 0
      omega
    obtain ⟨hi, ht⟩ := hsame (.inr hclock')
    refine ⟨_, exec_samplePeriod edge levels s hp hr, ?_⟩
    rw [s.samplePeriod_within edge levels hidle hin hwithin, hstart, hi, ht, hend]
    exact ⟨rfl, rfl, rfl⟩

end Sys2Proof.Machine
end

section
/-! SET_GAIN (R53, R54). -/

namespace Sys2Proof.Machine

theorem exec_setGain (p : Port) (f : Frame) (s : State) : exec (.setGain p f) s =
    .next (s.writeFrame p f 3 fun t bs => t.setGain (param bs 0).toNat (number bs 1 2)) := rfl

theorem State.setGain_range (s : State) {track : Nat} (gain : Nat) (h : 31 < track) :
    s.setGain track gain = (.range, s) := by
  have hindex : trackIndex track = none := dif_neg (by omega)
  unfold State.setGain
  rw [hindex]

/-- In CLOSED a Gain Code takes effect at once (R53, R54). -/
theorem State.setGain_closed (s : State) (i : Fin 32) (gain : Nat) (h : s.sessionOpen = false) :
    s.setGain i gain = (if gain > 1023 then .clamped else .ok, s.setGeneral { s.settings.general with
      gain := s.settings.general.gain.set i (if gain > 1023 then 1023 else gain) }) := by
  have hindex : trackIndex i = some i := dif_pos i.isLt
  unfold State.setGain
  rw [hindex, h, min_comm, min_def_lt]
  rfl

/-- In an open Session it becomes the pending Gain Code (R53, R54). -/
theorem State.setGain_open (s : State) (i : Fin 32) (gain : Nat) (h : s.sessionOpen = true) :
    s.setGain i gain = (if gain > 1023 then .clamped else .ok, { s with changes := { s.changes with
      gain := s.changes.gain.set i (some (if gain > 1023 then 1023 else gain)) } }) := by
  have hindex : trackIndex i = some i := dif_pos i.isLt
  unfold State.setGain
  rw [hindex, h, min_comm, min_def_lt]
  rfl

/-- Settles O28: the three outcomes of `State.setGain`, with the Frame's parameters read back. -/
theorem setGain : Obligations.SetGain := by
  unfold Obligations.SetGain
  intro p f k v s htakes hv hhears g r
  have hnumber : number (k :: le 2 v) 1 2 = v := number_le 2 v hv
  have hanswer : ∀ {r t}, (s.shifted p f).setGain k.toNat v = (r, t) →
      exec (.setGain p f) s = .next (t.setResult p r) := fun h =>
    (exec_setGain p f s).trans (congrArg _ (s.writeFrame_answers p f htakes hhears (by rw [hnumber]; exact h)))
  have hopen : (s.shifted p f).sessionOpen = true ↔ s.proc.state ≠ .closed := (s.shifted p f).sessionOpen_iff
  refine ⟨fun hk => hanswer (State.setGain_range _ v hk), fun i hk => ?_⟩
  rw [hk] at hanswer
  refine ⟨fun hc => hanswer (State.setGain_closed _ i v ?_),
    fun hc => hanswer (State.setGain_open _ i v (hopen.2 hc))⟩
  rw [← Bool.not_eq_true, hopen, not_not]
  exact hc

end Sys2Proof.Machine
end

section
/-! BLOCK_BOUNDARY: the judgement of the finished Block, its record and its storing, and the FLOOR Mark of a changed
holder (R64, R73, R74, R93, R102, R111 to R114). -/

namespace Sys2Proof.Machine

/-! ### The FLOOR flag through the storing of a Block (R73, R181) -/

/-- The Event Flag of each port stands as before. -/
def State.FlagSame (s : State) (e : Event) (t : State) : Prop :=
  ∀ p, (t.events.get p).flags &&& eventMask e = (s.events.get p).flags &&& eventMask e

theorem State.FlagSame.refl (s : State) (e : Event) : s.FlagSame e s := fun _ => rfl

theorem State.FlagSame.trans {s t u : State} {e : Event} (h : s.FlagSame e t) (k : t.FlagSame e u) :
    s.FlagSame e u := fun p => (k p).trans (h p)

theorem State.FlagSame.congr {s t u : State} {e : Event} (h : s.FlagSame e t) (he : u.events = t.events) :
    s.FlagSame e u := by
  intro p
  rw [he]
  exact h p

theorem State.FlagSame.ite {s t u : State} {e : Event} {c : Prop} [Decidable c] (ht : s.FlagSame e t)
    (hu : s.FlagSame e u) : s.FlagSame e (if c then t else u) := by
  split
  · exact ht
  · exact hu

theorem State.FlagSame.flagged {s t : State} {e : Event} (h : s.FlagSame e t) {p : Port} (hs : s.flagged p e) :
    t.flagged p e := by
  unfold State.flagged
  rw [h p]
  exact hs

/-- Another event's flag is another bit. -/
theorem State.FlagSame.raise (s : State) (q : Port) {d e : Event} (h : eventMask d &&& eventMask e = 0#16) :
    s.FlagSame e (s.raise q d) := by
  have hor : ∀ x : BitVec 16, (x ||| eventMask d) &&& eventMask e = x &&& eventMask e := fun x => by
    rw [BitVec.and_comm, BitVec.and_or_distrib_left, BitVec.and_comm _ (eventMask d), h, BitVec.or_zero,
      BitVec.and_comm]
  intro p
  rw [State.raise_events]
  obtain rfl | rfl := otherPort_cases q p
  · rw [Both.get_update]
    exact hor _
  · rw [Both.update, Both.get_set_other]

theorem State.FlagSame.evaluate (s : State) (p : Port) : s.FlagSame .floor (s.evaluate p) := by
  have hread : s.FlagSame .floor (s.setReader p ((s.readers.get p).evaluated s.ring.next)) := fun _ => rfl
  have havail := hread.trans (.ite (c := (((s.readers.get p).flagsAt s.ring.next).avail &&
    !(s.readers.get p).flags.avail) = true) (.raise _ p (d := .avail) rfl) (.refl _ _))
  exact havail.trans (.ite (.raise _ p rfl) (.refl _ _))

theorem State.FlagSame.freeOldest (s : State) : s.FlagSame .floor s.freeOldest := by
  have hcut : ∀ (u : State) q p, u.FlagSame .floor (u.raiseCut q p) := fun u q p =>
    .ite (.raise u p rfl) (.refl u _)
  have htrim : ∀ (u : State) q p, u.FlagSame .floor (u.raiseTrimmed q p) := fun u q p =>
    .ite (.raise u p rfl) (.refl u _)
  have hraised := (((hcut s s.ring.oldest .a).trans (hcut _ s.ring.oldest .b)).trans
    (htrim _ s.ring.oldest .a)).trans (htrim _ s.ring.oldest .b)
  unfold State.freeOldest
  dsimp only
  generalize State.raiseTrimmed _ s.ring.oldest .b = u at hraised
  exact hraised.congr rfl

theorem State.FlagSame.storeBlock (s : State) (b : Block) : s.FlagSame .floor (s.storeBlock b) := by
  unfold State.storeBlock
  dsimp only
  generalize hu : (if s.ring.blocks.length ≥ 8192 then s.freeOldest else s) = u
  have hfree : s.FlagSame .floor u := by
    rw [← hu]
    exact .ite (.freeOldest s) (.refl s _)
  have hput : s.FlagSame .floor { u with ring := u.ring.append b } := hfree.congr rfl
  exact (hput.trans (.evaluate _ .a)).trans (.evaluate _ .b)

theorem State.FlagSame.storeGap (s : State) (g : PendingGap) : s.FlagSame .floor (s.storeGap g) := by
  unfold State.storeGap
  dsimp only
  generalize hu : s.storeBlock (s.gapBlock g) = u
  have hput : s.FlagSame .floor u := hu ▸ .storeBlock s _
  have hclear : s.FlagSame .floor { u with ring := { u.ring with gap := none } } := hput.congr rfl
  exact (hclear.trans (.raise _ .a rfl)).trans (.raise _ .b rfl)

theorem State.FlagSame.ringAtBoundary (s : State) (recording : Bool) (b : Block) :
    s.FlagSame .floor (s.ringAtBoundary recording b) := by
  have hjoin : s.FlagSame .floor (s.joinGap b) := (State.FlagSame.refl s _).congr rfl
  unfold State.ringAtBoundary State.storeRecording State.tryStoreGap
  split
  · split
    · exact .ite (.storeBlock s b) hjoin
    · exact .ite ((State.FlagSame.storeGap s _).trans (.storeBlock _ b)) (.ite (.storeGap s _) hjoin)
  · split
    · exact .refl s _
    · exact .ite (.storeGap s _) (.refl s _)

/-! ### The storing of the finished Block (R111, R113, R114) -/

theorem State.obtainableSlots_pos (s : State) (h : s.ring.blocks.length < 8192) : 1 ≤ s.obtainableSlots := by
  unfold State.obtainableSlots
  dsimp only
  split
  · omega
  · rw [if_pos (by omega)]
    split <;> omega

/-- An unfilled ring with no Gap takes a recording Block as Sequence N (R111). -/
theorem State.ringAtBoundary_recorded (s : State) (b : Block) (hg : s.ring.gap = none)
    (hl : s.ring.blocks.length < 8192) :
    (s.ringAtBoundary true b).ring.blocks = s.ring.blocks ++ [{ b with sequence := s.ring.next }] ∧
      (s.ringAtBoundary true b).ring.next = s.ring.next + 1 := by
  have hstore : s.ringAtBoundary true b = s.storeBlock b := by
    simp [State.ringAtBoundary, State.storeRecording, hg, s.obtainableSlots_pos hl]
  obtain ⟨r, e, g, heq, hnext, _, hblocks⟩ := s.storeBlock_keeps b
  rw [hstore, heq]
  rw [if_neg (by omega)] at hblocks
  exact ⟨hblocks, hnext⟩

/-- With no Gap waiting, a Block that is not recorded leaves the ring alone (R114). -/
theorem State.ringAtBoundary_unrecorded (s : State) (b : Block) (hg : s.ring.gap = none) :
    s.ringAtBoundary false b = s := by
  simp [State.ringAtBoundary, State.tryStoreGap, hg]

/-! ### The judgement and the record of the finished Block (R51, R64, R93, R102) -/

theorem State.entriesFrom_length (s : State) (width : Width) (k : Nat) (ws : List TrackWork) :
    (s.entriesFrom width k ws).length = ws.length := by
  induction ws generalizing k with
  | nil => rfl
  | cons w ws ih => exact congrArg (· + 1) (ih (k + 1))

theorem State.entriesFrom_getElem? (s : State) (width : Width) (k : Nat) (ws : List TrackWork) (i : Nat) :
    (s.entriesFrom width k ws)[i]? = ws[i]?.map (s.trackEntry width (k + i)) := by
  induction ws generalizing k i with
  | nil => rfl
  | cons w ws ih =>
    cases i with
    | zero => rfl
    | succ i => simpa [State.entriesFrom, Nat.add_right_comm k 1 i, Nat.add_assoc] using ih (k + 1) i

theorem State.peaks_some (s : State) {b : BlockInProgress} (h : s.inProgress = some b) :
    s.peaks = b.tracks.map fun w => peak16 b.plan.width w.peak := by
  rw [State.peaks, h]
  rfl

/-- The state once activity and Floor are decided on the Peaks of the finished Block (R64). -/
def State.judged (s : State) : State := (s.updateActivity s.peaks).decideFloor s.peaks

/-- The decision reaches the Activity States, the Floor and the FLOOR flag. -/
theorem State.judged_eq (s : State) : s.judged = { s with
    activity := (s.updateActivity s.peaks).activity
    floor := (s.updateActivity s.peaks).floorDecision s.peaks
    events := if ((s.updateActivity s.peaks).floorDecision s.peaks).holder = s.floor.holder then s.events
      else (s.raiseBoth .floor).events } := by
  unfold State.judged State.decideFloor
  dsimp only
  obtain ⟨a, hact⟩ := s.updateActivity_keeps s.peaks
  rw [hact]
  split <;> rfl

/-- A change of holder sets FLOOR on both ports (R73). -/
theorem State.judged_flagged (s : State) (h : s.judged.floor.holder ≠ s.floor.holder) (p : Port) :
    s.judged.flagged p .floor := by
  rw [s.judged_eq] at h
  have hevents : s.judged.events = (s.raiseBoth .floor).events := by rw [s.judged_eq, if_neg h]
  exact State.FlagsKept.of_events hevents p _ (s.raiseBoth_flagged .floor p)

theorem State.judged_events (s : State) (h : s.judged.floor.holder = s.floor.holder) :
    s.judged.events = s.events := by
  rw [s.judged_eq] at h
  rw [s.judged_eq, if_pos h]

/-- The judged state with the finished Block out of progress and on record, its storing still to come (R51, R56,
R57). -/
def State.recorded (s : State) (b : BlockInProgress) : State :=
  { s with
    inProgress := none
    tracks := { s.tracks with
      restrictedClip := s.tracks.restrictedClip || decide (s.finishedClass = BlockClass.restricted)
      last := some ⟨s.proc.periods, s.finishedClass, s.floor.holder,
        s.entriesFrom b.plan.width 0 b.tracks⟩ } }

theorem State.recorded_last (s : State) (b : BlockInProgress) : (s.recorded b).tracks.last =
    some ⟨s.proc.periods, s.finishedClass, s.floor.holder, s.entriesFrom b.plan.width 0 b.tracks⟩ := rfl

theorem State.recorded_restrictedClip (s : State) (b : BlockInProgress) : (s.recorded b).tracks.restrictedClip =
    (s.tracks.restrictedClip || decide (s.finishedClass = .restricted)) := rfl

theorem State.dealWith_eq (s : State) (b : BlockInProgress) :
    s.dealWith b = (s.recorded b).ringAtBoundary s.proc.recording (s.finishedBlock b) := rfl

/-- Which state comes after the boundary is a matter of the Proceedings Controller alone (R90 to R93). -/
theorem State.fixNext_congr {s t : State} (h : t.proc = s.proc) :
    t.fixNext = { t with proc := s.fixNext.proc, stage := s.fixNext.stage } := by
  have ht : { t with proc := s.proc } = t := by rw [← h]
  conv_lhs => rw [← ht]
  rfl

theorem State.fixNext_stage (s : State) : ∃ next, s.fixNext.stage = .turned next none := by
  unfold State.fixNext
  exact ⟨_, rfl⟩

theorem State.fixNext_events (s : State) : s.fixNext.events = s.events := by
  unfold State.fixNext
  rfl

theorem State.fixNext_counts (s : State) : s.fixNext.proc.clock = s.proc.clock ∧
    s.fixNext.proc.periods = s.proc.periods + 1 ∧ s.fixNext.proc.session = s.proc.session ∧
    s.fixNext.proc.state = s.proc.state := by
  unfold State.fixNext
  exact ⟨rfl, rfl, rfl, rfl⟩

/-! ### The FLOOR Mark (R73, R74) -/

theorem ProceedingsState.marksFloor_iff (x : ProceedingsState) :
    x.marksFloor = true ↔ x = .onRecord ∨ x = .sidebar := by
  cases x <;> simp [ProceedingsState.marksFloor]

theorem State.askFloor_unmarked (s : State) {before : Option (Fin 32)} (cls : BlockClass) (after : Nat)
    {next : ProceedingsState} (hs : s.stage = .turned next none)
    (h : ¬(s.floor.holder ≠ before ∧ (next = .onRecord ∨ next = .sidebar))) :
    s.askFloor before cls after = s := by
  rw [← next.marksFloor_iff, ne_comm] at h
  simp only [State.askFloor, hs, if_neg h]

theorem State.askFloor_waits (s : State) {before : Option (Fin 32)} (cls : BlockClass) {after : Nat}
    {next : ProceedingsState} (hs : s.stage = .turned next none)
    (h : s.floor.holder ≠ before ∧ (next = .onRecord ∨ next = .sidebar)) (ha : 0 < after) :
    s.askFloor before cls after = { s with stage := .turned next (some (after, s.floor.holder,
      decide (cls = .restricted) || decide (next = .sidebar))) } := by
  rw [← next.marksFloor_iff, ne_comm] at h
  simp only [State.askFloor, hs, if_pos h, if_neg ha.ne']

theorem State.askFloor_inserts (s : State) {before : Option (Fin 32)} (cls : BlockClass)
    {next : ProceedingsState} (hs : s.stage = .turned next none)
    (h : s.floor.holder ≠ before ∧ (next = .onRecord ∨ next = .sidebar)) (ho : s.sessionOpen = true) :
    s.askFloor before cls 0 = s.insertMark (s.floorRequest s.floor.holder
      (decide (cls = .restricted) || decide (next = .sidebar))) := by
  rw [← next.marksFloor_iff, ne_comm] at h
  simp only [State.askFloor, hs, if_pos h, if_true]
  have hback : { s with stage := .turned next none } = s := by rw [← hs]
  refine (State.flushFloor_some { s with stage := .turned next (some (0, s.floor.holder,
    decide (cls = .restricted) || decide (next = .sidebar))) } rfl ho).trans ?_
  exact congrArg (fun u : State => u.insertMark (s.floorRequest s.floor.holder
    (decide (cls = .restricted) || decide (next = .sidebar)))) hback

theorem State.FlagsKept.askFloor (s : State) (before : Option (Fin 32)) (cls : BlockClass) (after : Nat)
    {next : ProceedingsState} (hs : s.stage = .turned next none) (ho : s.sessionOpen = true) :
    s.FlagsKept (s.askFloor before cls after) := by
  by_cases h : s.floor.holder ≠ before ∧ (next = .onRecord ∨ next = .sidebar)
  · obtain rfl | ha := Nat.eq_zero_or_pos after
    · rw [s.askFloor_inserts cls hs h ho]
      exact .insertMark s _
    · rw [s.askFloor_waits cls hs h ha]
      exact .of_events rfl
  · rw [s.askFloor_unmarked cls after hs h]
    exact .refl s

/-! ### BLOCK_BOUNDARY as a whole -/

theorem State.updateActivity_track (s : State) (peaks : List Nat) (i : Fin 32) :
    (s.updateActivity peaks).activity[i] = match peaks[i.val]? with
      | none => s.activity[i]
      | some p => (s.activity[i]).update s.settings.general.track[i] p :=
  Vector.getElem_ofFn i.isLt

/-- The end of the 480th Sample Period leaves the ring and what the Session is, and counts the clock (R64, R79). -/
theorem State.beginBoundary_ended (s : State) (hd : s.boundaryDue = true) :
    s.beginBoundary.inPeriod = false ∧ s.beginBoundary.ring = s.ring ∧
      s.beginBoundary.proc.clock = s.proc.clock + 1 ∧ s.beginBoundary.proc.periods = s.proc.periods ∧
      s.beginBoundary.proc.session = s.proc.session ∧ s.beginBoundary.proc.verify = s.proc.verify ∧
      s.beginBoundary.proc.recording = s.proc.recording ∧ s.beginBoundary.sessionOpen = true := by
  obtain ⟨_, _, _, hruns, _⟩ := s.boundaryDue_iff.1 hd
  obtain ⟨hopen, _⟩ := s.clockRuns_iff.1 hruns
  obtain ⟨l, x, b, t, r, e, m, hend, _, _, hclock, hperiods, hsession, _, hverify, hrecording, hstate⟩ :=
    s.endPeriod_keeps
  obtain ⟨a, w, c, hbegin⟩ := s.beginBoundary_keeps
  rw [if_pos hruns] at hclock
  rw [State.sessionOpen_iff, hbegin, hend]
  exact ⟨rfl, rfl, hclock, hperiods, hsession, hverify, hrecording, fun h => hopen (hstate.1 h)⟩

/-- The state once the finished Block is dealt with and the state after the boundary is fixed, before the FLOOR Mark is
asked for (R64, R73). -/
def State.beforeFloorMark (s : State) (b : BlockInProgress) : State := (s.judged.dealWith b).fixNext

theorem State.turn_eq_askFloor (s : State) (floorAfter : Nat) {b : BlockInProgress} (h : s.inProgress = some b) :
    s.turn floorAfter = (s.beforeFloorMark b).askFloor s.floor.holder s.finishedClass floorAfter :=
  s.turn_some floorAfter b h

/-- All that the dealing with the finished Block reaches, by what the judgement and the record made of it. -/
theorem State.beforeFloorMark_eq (s : State) (b : BlockInProgress) :
    ∃ r e, s.beforeFloorMark b = { s with
      inProgress := none
      tracks := (s.judged.recorded b).tracks
      activity := s.judged.activity
      floor := s.judged.floor
      proc := s.fixNext.proc
      stage := s.fixNext.stage
      ring := (s.judged.dealWith b).ring
      readers := r
      events := e } := by
  have hjudged := s.judged_eq
  obtain ⟨r, e, x, hring⟩ := (s.judged.recorded b).ringAtBoundary_keeps s.judged.proc.recording
    (s.judged.finishedBlock b)
  have hdeal : s.judged.dealWith b = _ := (s.judged.dealWith_eq b).trans hring
  have hproc : (s.judged.dealWith b).proc = s.proc := by
    rw [hdeal]
    show s.judged.proc = s.proc
    rw [hjudged]
  rw [State.beforeFloorMark, State.fixNext_congr hproc]
  refine ⟨(s.judged.dealWith b).readers, (s.judged.dealWith b).events, ?_⟩
  rw [hdeal]
  unfold State.recorded
  dsimp only
  rw [hjudged]

/-- Only the decision touches the FLOOR flag before the Mark is asked for (R73). -/
theorem State.FlagSame.beforeFloorMark (s : State) (b : BlockInProgress) :
    s.judged.FlagSame .floor (s.beforeFloorMark b) := by
  have hrecord : s.judged.FlagSame .floor (s.judged.recorded b) := fun _ => rfl
  have hstore := hrecord.trans (.ringAtBoundary _ s.judged.proc.recording (s.judged.finishedBlock b))
  rw [← s.judged.dealWith_eq b] at hstore
  exact hstore.congr (s.judged.dealWith b).fixNext_events

theorem State.beforeFloorMark_sessionOpen (s : State) (b : BlockInProgress) (ho : s.sessionOpen = true) :
    (s.beforeFloorMark b).sessionOpen = true := by
  obtain ⟨r, e, h⟩ := s.beforeFloorMark_eq b
  obtain ⟨_, _, _, hstate⟩ := s.fixNext_counts
  rw [State.sessionOpen_iff, ← hstate] at ho
  rw [State.sessionOpen_iff, h]
  exact ho

/-- What a boundary leaves of a state once the finished Block is dealt with, but for its FLOOR Mark. -/
theorem State.turn_record (s : State) (floorAfter : Nat) {b : BlockInProgress} (hb : s.inProgress = some b) :
    ∃ g r e m, s.turn floorAfter = { s with
      inProgress := none
      tracks := (s.judged.recorded b).tracks
      activity := s.judged.activity
      floor := s.judged.floor
      proc := s.fixNext.proc
      ring := (s.judged.dealWith b).ring
      stage := g, readers := r, events := e, marks := m } := by
  obtain ⟨next, hnext⟩ := s.fixNext_stage
  obtain ⟨r, e, hw⟩ := s.beforeFloorMark_eq b
  have hstage : (s.beforeFloorMark b).stage = .turned next none := by rw [hw]; exact hnext
  obtain ⟨g, r', e', m, hask, _⟩ := (s.beforeFloorMark b).askFloor_keeps s.floor.holder s.finishedClass floorAfter
    (State.turned_of_stage _ hstage)
  rw [s.turn_eq_askFloor floorAfter hb, hask, hw]
  exact ⟨g, r', e', m, rfl⟩

/-- FLOOR is set exactly when the holder changes (R73). -/
theorem State.turn_floorFlag (s : State) (floorAfter : Nat) {b : BlockInProgress} (hb : s.inProgress = some b)
    (ho : s.sessionOpen = true) :
    (s.judged.floor.holder ≠ s.floor.holder → ∀ p, (s.turn floorAfter).flagged p .floor) ∧
      (s.judged.floor.holder = s.floor.holder → s.FlagSame .floor (s.turn floorAfter)) := by
  obtain ⟨next, hnext⟩ := s.fixNext_stage
  obtain ⟨r, e, hw⟩ := s.beforeFloorMark_eq b
  have hwopen := s.beforeFloorMark_sessionOpen b ho
  have hsame := State.FlagSame.beforeFloorMark s b
  rw [s.turn_eq_askFloor floorAfter hb]
  generalize s.beforeFloorMark b = w at hw hwopen hsame
  have hstage : w.stage = .turned next none := by rw [hw]; exact hnext
  have hfloor : w.floor = s.judged.floor := by rw [hw]
  refine ⟨fun h p => ?_, fun h => ?_⟩
  · exact State.FlagsKept.askFloor w _ _ _ hstage hwopen p _ (hsame.flagged (s.judged_flagged h p))
  · rw [w.askFloor_unmarked _ _ hstage fun hm => hm.1 (by rw [hfloor, h])]
    exact ((State.FlagSame.refl s .floor).congr (s.judged_events h)).trans hsame

/-- The FLOOR Mark of a changed holder, if the record is on after the boundary: at once, or after other Marks (R73,
R74; log entry 10). -/
theorem State.turn_floorMark (s : State) (floorAfter : Nat) {b : BlockInProgress} (hb : s.inProgress = some b)
    (ho : s.sessionOpen = true) {next : ProceedingsState} (hnext : s.fixNext.stage = .turned next none) :
    let t := s.turn floorAfter
    let holder := s.judged.floor.holder
    let marked := holder ≠ s.floor.holder ∧ (next = .onRecord ∨ next = .sidebar)
    let restricted := decide (s.finishedClass = .restricted) || decide (next = .sidebar)
    (¬marked → t.stage = .turned next none ∧ t.marks = s.marks) ∧
    (marked → 0 < floorAfter →
      t.stage = .turned next (some (floorAfter, holder, restricted)) ∧ t.marks = s.marks) ∧
    (marked → floorAfter = 0 → t.stage = .turned next none ∧ ∃ v : State, v.marks = s.marks ∧ v.ring = t.ring ∧
      v.proc = t.proc ∧ v.stage = t.stage ∧ t = v.insertMark (t.floorRequest holder restricted)) := by
  intro t holder marked restricted
  obtain ⟨r, e, hw⟩ := s.beforeFloorMark_eq b
  have hwopen := s.beforeFloorMark_sessionOpen b ho
  have ht : t = _ := s.turn_eq_askFloor floorAfter hb
  clear_value t
  generalize s.beforeFloorMark b = w at hw hwopen ht
  have hstage : w.stage = .turned next none := by rw [hw]; exact hnext
  have hfloor : w.floor = s.judged.floor := by rw [hw]
  have hmarks : w.marks = s.marks := by rw [hw]
  have hunmarked := w.askFloor_unmarked (before := s.floor.holder) s.finishedClass floorAfter hstage
  have hwaits := w.askFloor_waits (before := s.floor.holder) s.finishedClass (after := floorAfter) hstage
  have hinserts := w.askFloor_inserts (before := s.floor.holder) s.finishedClass hstage
  rw [hfloor] at hunmarked hwaits hinserts
  refine ⟨fun hm => ?_, fun hm ha => ?_, fun hm ha => ?_⟩
  · rw [ht, hunmarked hm]
    exact ⟨hstage, hmarks⟩
  · rw [ht, hwaits hm ha]
    exact ⟨rfl, hmarks⟩
  · subst ha
    obtain ⟨r', e', m, hkeeps⟩ := w.insertMark_keeps (w.floorRequest holder restricted)
    rw [hinserts hm hwopen] at ht
    rw [← ht] at hkeeps
    have hstaget : t.stage = w.stage := by rw [hkeeps]
    have hproct : t.proc = w.proc := by rw [hkeeps]
    have hringt : t.ring = w.ring := by rw [hkeeps]
    have hrequest : t.floorRequest holder restricted = w.floorRequest holder restricted := by
      unfold State.floorRequest
      rw [hproct]
    refine ⟨hstaget.trans hstage, w, hmarks, hringt.symm, hproct.symm, hstaget.symm, ?_⟩
    rw [hrequest]
    exact ht

/-- Settles O42: the end of the period by `State.beginBoundary_ended`, the judgement and the record of the finished
Block by `State.turn_record`, and the Floor's event and Mark by `State.turn_floorFlag` and `State.turn_floorMark`. -/
theorem blockBoundary : Obligations.BlockBoundary := by
  unfold Obligations.BlockBoundary
  intro k s hd b hb
  have hended := s.beginBoundary_ended hd
  have hexec := exec_blockBoundary_due k s hd
  generalize s.beginBoundary = u at hb hended hexec
  obtain ⟨hperiod, hring, hclock, hperiods, hsession, hverify, hrecording, hopen⟩ := hended
  intro _ cls peaks f changed
  have hcls : u.finishedClass = cls := by rw [State.finishedClass, hverify]
  have hpeaks : u.peaks = peaks := u.peaks_some hb
  clear_value cls peaks
  have hjudged := u.judged_eq
  rw [hpeaks] at hjudged
  have hjproc : u.judged.proc = u.proc := by rw [hjudged]
  have hjfloor : u.judged.floor = f := by rw [hjudged]
  clear_value f
  have hjring : u.judged.ring = s.ring := by rw [hjudged]; exact hring
  have hjcls : u.judged.finishedClass = cls := by rw [← hcls, State.finishedClass, State.finishedClass, hjproc]
  obtain ⟨next, hnext⟩ := u.fixNext_stage
  obtain ⟨hnclock, hnperiods, hnsession, _⟩ := u.fixNext_counts
  obtain ⟨g, r, e, m, ht⟩ := u.turn_record k hb
  obtain ⟨_, _, _, _, _, _, _, _, _, _, _, _, hturned⟩ := u.turn_keeps k
  obtain ⟨hflagged, hsame⟩ := u.turn_floorFlag k hb hopen
  have hmark := u.turn_floorMark k hb hopen hnext
  rw [hjfloor] at hflagged hsame hmark
  rw [hcls] at hmark
  refine ⟨u.turn k, next, hexec, ?_⟩
  generalize u.turn k = t at ht hturned hflagged hsame hmark
  have htproc : t.proc = u.fixNext.proc := by rw [ht]
  have htactivity : t.activity = u.judged.activity := by rw [ht]
  refine ⟨?_, ?_, ?_, ?_, hturned, ?_, ?_, ?_, ?_, hnext, htproc, fun i => ?_, ?_, fun q hc => hflagged hc q,
    fun q hc => hsame (not_not.1 hc) q, ⟨u.judged.entriesFrom b.plan.width 0 b.tracks, ?_,
      u.judged.entriesFrom_length _ _ _, fun i x hx => ?_, ?_, ?_⟩, hmark⟩
  · rw [htproc, hnclock, hclock]
  · rw [htproc, hnperiods, hperiods]
  · rw [ht]; exact hperiod
  · rw [ht]
  · rw [htproc, hnsession, hsession]
  · rw [ht]
  · rw [ht]
  · rw [ht]
  · rw [htactivity, hjudged]
    exact u.updateActivity_track peaks i
  · rw [ht]; exact hjfloor
  · rw [ht]
    exact (u.judged.recorded_last b).trans (by rw [hjproc, hjcls, hjfloor, hperiods])
  · rw [u.judged.entriesFrom_getElem?, hx, Nat.zero_add, htactivity]
    rfl
  · rw [ht]
    exact (u.judged.recorded_restrictedClip b).trans (by rw [hjcls, hjudged])
  · intro x
    have hx : u.judged.finishedBlock b = x := by simp only [State.finishedBlock, hjcls, hjring, hjfloor, x]
    clear_value x
    have hvring : (u.judged.recorded b).ring = s.ring := hjring
    have htring : t.ring = ((u.judged.recorded b).ringAtBoundary s.proc.recording x).ring := by
      rw [← hx, ← hrecording, ← hjproc, ← u.judged.dealWith_eq b, ht]
    refine ⟨⟨u.judged.recorded b, hvring, ?_, hjproc, htring⟩, fun hrec hgap => ?_, fun hrec hgap hlen => ?_⟩
    · show u.judged.readers = u.readers
      rw [hjudged]
    · rw [htring, hrec, State.ringAtBoundary_unrecorded _ x (by rw [hvring, hgap]), hvring]
    · have hseq : { x with sequence := s.ring.next } = x := by rw [← hx, State.finishedBlock, hjring]
      have hstored := State.ringAtBoundary_recorded (u.judged.recorded b) x (by rw [hvring, hgap])
        (by rw [hvring]; exact hlen)
      rwa [hvring, hseq, ← hrec, ← htring] at hstored

end Sys2Proof.Machine
end

section
/-! A property of the state through a Frame: what each kind of Frame keeps once the shared operations keep it (R169
to R175). -/

namespace Sys2Proof.Machine

/-- A property that looks at no port, and that the end of an open boundary and a chip-select rise keep. -/
structure FrameStable (P : State → Prop) : Prop where
  ports : ∀ (s : State) (x : Both PortState), P s → P { s with ports := x }
  finish : ∀ s : State, P s → P s.finishBoundary
  rise : ∀ (s : State) (p : Port) (more : Nat), P s → P (s.rise p more)

variable {P : State → Prop}

theorem FrameStable.atFrame (h : FrameStable P) (s : State) (p : Port) (hs : P s) : P (s.atFrame p) := by
  unfold State.atFrame
  split
  · exact hs
  · exact h.rise _ p 0 (h.finish s hs)

theorem FrameStable.answer (h : FrameStable P) (s : State) (p : Port) (w : LaneWidth) (edges : Nat) (r : Result)
    (hs : P s) : P (s.answer p w edges r) := h.ports s _ hs

theorem FrameStable.judge (h : FrameStable P) (s : State) (p : Port) (w : LaneWidth) (edges : Nat)
    {act : State → State} (hact : ∀ t, P t → P (act t)) (hs : P s) : P (s.judge p w edges act) := by
  unfold State.judge
  split
  · exact h.answer s p w edges .busy hs
  · exact hact _ (h.atFrame s p hs)

/-- A Frame keeps what its row keeps, however RESET meets it (R169, R175). -/
theorem FrameStable.takeFrame (h : FrameStable P) (s : State) (p : Port) (w : LaneWidth) (edges : Nat)
    (reset : AtReset) {act : State → State} (hact : ∀ t, P t → P (act t)) (hs : P s) :
    P (s.takeFrame p w edges reset act) := by
  have hsend : P (s.send p w edges zeros) := h.ports s _ hs
  unfold State.takeFrame
  split
  · exact hs
  · split <;> split
    · exact hsend
    · exact hs
    · exact hsend
    · exact h.judge s p w edges hact hs
    · exact h.ports _ _ (h.atFrame s p hs)
    · exact hs

theorem FrameStable.takeCommand (h : FrameStable P) (s : State) (p : Port) (f : Frame) {act : State → State}
    (hact : ∀ t, P t → P (act t)) (hs : P s) : P (s.takeCommand p f act) :=
  h.takeFrame s p _ _ f.reset hact hs

/-- A write Frame keeps what its command keeps. -/
theorem FrameStable.writeFrame (h : FrameStable P) (s : State) (p : Port) (f : Frame) (n : Nat)
    {act : State → List Byte → Result × State} (hact : ∀ t bs, P t → P (act t bs).2) (hs : P s) :
    P (s.writeFrame p f n act) := by
  refine h.takeCommand s p f (fun t ht => ?_) hs
  have hshifted : P (t.shifted p f) := h.ports t _ ht
  dsimp only
  split
  · exact h.ports _ _ (hact _ _ hshifted)
  · exact h.ports _ _ hshifted

/-- A read Frame whose data is taken whole changes nothing but its port. -/
theorem FrameStable.readFrame (h : FrameStable P) (s : State) (p : Port) (f : Frame) (n : Nat)
    (refusal : State → List Byte → Option Result) (data : State → List Byte → List Byte) (hs : P s) :
    P (s.readFrame p f n refusal data) := by
  refine h.takeCommand s p f (fun t ht => ?_) hs
  dsimp only
  split
  · exact h.ports t _ ht
  · split <;> exact h.ports t _ ht

/-- A Frame of READ_BLOCK or READ_MARKS keeps what the start of a transfer keeps. -/
theorem FrameStable.transferFrame (h : FrameStable P) (s : State) (p : Port) (f : Frame)
    (refusal : State → Byte → Option Result) (fixed : State → Byte → Delivery × List Byte)
    (hlaunch : ∀ t x, P t → P (t.launch p x)) (hs : P s) : P (s.transferFrame p f refusal fixed) := by
  refine h.takeCommand s p f (fun t ht => ?_) hs
  dsimp only
  split
  · exact h.ports t _ ht
  · split
    · exact h.ports t _ ht
    · split
      · exact h.ports t _ ht
      · exact hlaunch _ _ (h.ports t _ ht)

theorem FrameStable.riseOf (h : FrameStable P) (s : State) (p : Port) (ofBlock : Bool) (more : Nat) (hs : P s) :
    P (s.riseOf p ofBlock more) := by
  unfold State.riseOf
  split
  · exact h.rise _ p more (h.finish s hs)
  · obtain hk | ⟨out, part, hk⟩ := s.riseEnded_keeps p ofBlock more <;> rw [hk]
    · exact hs
    · exact h.ports s _ hs

end Sys2Proof.Machine
end

section
/-! Every stored sample, and every one being assembled, stays within its Block's width (R45). -/

namespace Sys2Proof.Machine

/-! ### What the samples of a state hang on -/

/-- Every sample of a stored Block lies within its width's range. -/
def Block.fits (b : Block) : Prop := ∀ xs ∈ b.body, ∀ v ∈ xs, inWidth b.width v

/-- Every sample of a Block in progress lies within its plan's width's range. -/
def BlockInProgress.fits (b : BlockInProgress) : Prop := ∀ w ∈ b.tracks, ∀ v ∈ w.samples, inWidth b.plan.width v

theorem State.samplesWf_iff (s : State) : s.samplesWf ↔
    (∀ b, s.inProgress = some b → b.fits) ∧ ∀ b ∈ s.ring.blocks, b.fits := Iff.rfl

theorem State.samplesWf_empty {s : State} (hi : s.inProgress = none) (hb : s.ring.blocks = []) : s.samplesWf := by
  simp [State.samplesWf_iff, hi, hb]

variable {s t : State}

/-- What leaves the Block in progress and the stored Blocks alone keeps their samples. -/
theorem State.samplesWf.congr (h : s.samplesWf) (hi : t.inProgress = s.inProgress)
    (hb : t.ring.blocks = s.ring.blocks) : t.samplesWf := by
  rw [State.samplesWf_iff, hi, hb]
  exact h

theorem State.samplesWf.ite {c : Prop} [Decidable c] (ht : t.samplesWf) (hs : s.samplesWf) :
    (if c then t else s).samplesWf := by
  split
  · exact ht
  · exact hs

/-- Both answers of a command keep the samples. -/
theorem State.samplesWf.answered {c : Prop} [Decidable c] {x y : Result × State} (hx : x.2.samplesWf)
    (hy : y.2.samplesWf) : (if c then x else y).2.samplesWf := by
  split
  · exact hx
  · exact hy

theorem State.samplesWf.raiseBoth (h : s.samplesWf) (e : Event) : (s.raiseBoth e).samplesWf := h.congr rfl rfl

/-! ### The ring -/

/-- A storing adds one Block, whose samples must fit; a freeing before it takes only Blocks away (R103). -/
theorem State.samplesWf.stored (h : s.samplesWf) {b : Block} (hfits : b.fits) (hi : t.inProgress = s.inProgress)
    (hb : t.ring.blocks =
      (if s.ring.blocks.length ≥ 8192 then s.ring.blocks.tail else s.ring.blocks) ++ [b]) : t.samplesWf := by
  obtain ⟨hprogress, hblocks⟩ := s.samplesWf_iff.1 h
  refine t.samplesWf_iff.2 ⟨by rwa [hi], fun x hx => ?_⟩
  rw [hb, List.mem_append, List.mem_singleton] at hx
  obtain hx | rfl := hx
  · refine hblocks x ?_
    split at hx
    · exact List.mem_of_mem_tail hx
    · exact hx
  · exact hfits

theorem State.samplesWf.storeBlock (h : s.samplesWf) {b : Block} (hb : b.fits) : (s.storeBlock b).samplesWf := by
  obtain ⟨r, e, g, heq, _, _, hblocks⟩ := s.storeBlock_keeps b
  rw [heq]
  exact h.stored (b := { b with sequence := s.ring.next }) hb rfl hblocks

/-- A GAP Block holds no samples (Table 6.2). -/
theorem State.samplesWf.storeGap (h : s.samplesWf) (g : PendingGap) : (s.storeGap g).samplesWf := by
  obtain ⟨r, e, x, heq, _, _, hblocks⟩ := s.storeGap_keeps g
  rw [heq]
  exact h.stored (b := s.gapBlock g) nofun rfl hblocks

theorem State.samplesWf.tryStoreGap (h : s.samplesWf) : s.tryStoreGap.samplesWf := by
  unfold State.tryStoreGap
  split
  · exact h
  · exact .ite (h.storeGap _) h

theorem State.samplesWf.drainGap (h : s.samplesWf) : s.drainGap.samplesWf := .ite h h.tryStoreGap

theorem State.samplesWf.ringAtBoundary (h : s.samplesWf) (recording : Bool) {b : Block} (hb : b.fits) :
    (s.ringAtBoundary recording b).samplesWf := by
  refine .ite ?_ h.tryStoreGap
  have hjoin : (s.joinGap b).samplesWf := h.congr rfl rfl
  unfold State.storeRecording
  split
  · exact .ite (h.storeBlock hb) hjoin
  · exact .ite ((h.storeGap _).storeBlock hb) (.ite (h.storeGap _) hjoin)

/-! ### Marks, Readers, links, the clock and the Proceedings Controller do not reach a Block -/

theorem State.samplesWf.evaluate (h : s.samplesWf) (p : Port) : (s.evaluate p).samplesWf := by
  obtain ⟨r, e, heq⟩ := s.evaluate_keeps p
  rw [heq]
  exact h.congr rfl rfl

theorem State.samplesWf.requestMark (h : s.samplesWf) (q : MarkRequest) : (s.requestMark q).samplesWf := by
  obtain ⟨r, e, m, heq⟩ := s.requestMark_keeps q
  rw [heq]
  exact h.congr rfl rfl

theorem State.samplesWf.drainLost (h : s.samplesWf) : s.drainLost.samplesWf := by
  obtain ⟨r, e, m, heq⟩ := s.drainLost_keeps
  rw [heq]
  exact h.congr rfl rfl

theorem State.samplesWf.receiveLink (h : s.samplesWf) (n : Fin 8) (x : LinkInput) :
    (s.receiveLink n x).samplesWf := by
  obtain ⟨r, e, m, heq⟩ := s.receiveLink_keeps n x
  rw [heq]
  exact h.congr rfl rfl

theorem State.samplesWf.receiveTransition (h : s.samplesWf) (n : Fin 8) (x : LinkInput)
    (before after : LinkState) : (s.receiveTransition n x before after).samplesWf :=
  .ite (h.receiveLink n x) h

theorem State.samplesWf.enableLink (h : s.samplesWf) (n : Fin 8) (on : Bool) : (s.enableLink n on).samplesWf := by
  obtain ⟨l, r, e, m, heq⟩ := s.enableLink_keeps n on
  rw [heq]
  exact h.congr rfl rfl

theorem State.samplesWf.loseHouse (h : s.samplesWf) : s.loseHouse.samplesWf := by
  obtain ⟨r, e, m, heq⟩ := s.loseHouse_keeps
  rw [heq]
  exact h.congr rfl rfl

theorem State.samplesWf.houseReturns (h : s.samplesWf) : s.houseReturns.samplesWf := by
  obtain ⟨e, heq⟩ := s.setClockState_keeps .house
  rw [State.houseReturns, heq]
  exact h.congr rfl rfl

theorem State.samplesWf.applySource (h : s.samplesWf) (x : ClockSource) : (s.applySource x).samplesWf := by
  obtain ⟨e, heq⟩ := s.applySource_keeps x
  rw [heq]
  exact h.congr rfl rfl

theorem State.samplesWf.acceptLine (h : s.samplesWf) (l : Line) : (s.acceptLine l).samplesWf := by
  obtain ⟨x, r, e, m, heq, _⟩ := s.acceptLine_keeps l
  rw [heq]
  exact h.congr rfl rfl

theorem State.samplesWf.request (h : s.samplesWf) (wanted : ProceedingsState) (who : Party) :
    (s.request wanted who).2.samplesWf := by
  obtain ⟨r, e, m, t, heq | ⟨_, heq⟩⟩ := s.request_keeps wanted who <;> rw [heq] <;> exact h.congr rfl rfl

/-! ### A Sample Period -/

/-- The output sample of a period is saturated, and the samples before it stay (R45). -/
theorem TrackWork.take_fits (w : TrackWork) (width : Width) (gain j : Nat) (inputs : List ChannelSample)
    (h : ∀ v ∈ w.samples, inWidth width v) : ∀ v ∈ (w.take width gain j inputs).samples, inWidth width v := by
  cases hforms : formsSample w.spec.mode j with
  | false =>
    rw [w.take_waits width gain inputs hforms]
    exact h
  | true =>
    rw [w.take_forms width gain inputs hforms]
    intro v hv
    obtain hv | hv := List.mem_append.1 hv
    · exact h v hv
    · rw [List.mem_singleton.1 hv]
      exact inWidth_saturate width _

theorem State.sampled_fits (s : State) {b : BlockInProgress} (h : b.fits) : (s.sampled b).fits := by
  intro w hw
  obtain ⟨k, hk⟩ := List.mem_iff_getElem?.1 hw
  rw [State.sampled, s.takeTracks_getElem?] at hk
  obtain ⟨w', hw', rfl⟩ := Option.map_eq_some_iff.1 hk
  exact w'.take_fits _ _ _ _ (h w' (List.mem_of_getElem? hw'))

theorem State.samplesWf.trackPeriod (h : s.samplesWf) : s.trackPeriod.samplesWf := by
  cases hb : s.inProgress with
  | none =>
    simp only [State.trackPeriod, hb]
    exact h
  | some b =>
    obtain ⟨hprogress, hblocks⟩ := s.samplesWf_iff.1 h
    rw [s.trackPeriod_some hb, State.samplesWf_iff]
    refine ⟨fun x hx => ?_, hblocks⟩
    obtain rfl : s.sampled b = x := Option.some.inj hx
    exact s.sampled_fits (hprogress b hb)

theorem State.samplesWf.setProc (h : s.samplesWf) (x : Proceedings) : (s.setProc x).samplesWf := h.congr rfl rfl

theorem State.samplesWf.countPeriod (h : s.samplesWf) : s.countPeriod.samplesWf := .ite (h.trackPeriod.setProc _) h

theorem State.samplesWf.examined (h : s.samplesWf) : s.examined.samplesWf := by
  obtain ⟨l, r, e, m, hmiss⟩ := s.missLinks_keeps
  obtain ⟨x, r', e', m', hbench, _⟩ := s.missLinks.settleBench_keeps
  rw [State.examined, hbench, hmiss]
  exact h.congr rfl rfl

theorem State.samplesWf.settleLoss (h : s.samplesWf) : s.settleLoss.samplesWf := .ite h.loseHouse h

theorem State.samplesWf.settleReturn (h : s.samplesWf) : s.settleReturn.samplesWf := .ite h.houseReturns h

theorem State.samplesWf.endPeriod (h : s.samplesWf) : s.endPeriod.samplesWf := by
  have hcounted := h.examined.settleLoss.settleReturn.countPeriod
  rw [s.endPeriod_eq]
  generalize s.examined.settleLoss.settleReturn.countPeriod = u at hcounted
  exact hcounted.congr rfl rfl

/-- A fresh Block in progress holds no samples (R42, R101). -/
theorem State.samplesWf.setUpBlock (h : s.samplesWf) : s.setUpBlock.samplesWf := by
  obtain ⟨_, hblocks⟩ := s.samplesWf_iff.1 h
  refine (State.samplesWf_iff _).2 ⟨fun b hb w hw => ?_, hblocks⟩
  obtain rfl := Option.some.inj hb
  obtain ⟨spec, _, rfl⟩ := List.mem_map.1 hw
  exact nofun

theorem State.samplesWf.startPeriod (h : s.samplesWf) (edge : Bool) (levels : BenchLevels) :
    (s.startPeriod edge levels).samplesWf := by
  unfold State.startPeriod
  dsimp only
  generalize hu : ({ s with inPeriod := true, frameSyncs := _, proc := _, clockUnit := _ } : State) = u
  have hwf : u.samplesWf := by
    rw [← hu]
    exact h.congr rfl rfl
  have hset : u.setUpIfFirst.samplesWf := .ite hwf.setUpBlock hwf
  exact hset.congr rfl rfl

/-! ### The Block Boundary -/

/-- The finished Block carries the samples of the Block in progress, at its width (R102). -/
theorem State.finishedBlock_fits (s : State) {b : BlockInProgress} (h : b.fits) : (s.finishedBlock b).fits := by
  intro xs hxs
  obtain ⟨w, hw, rfl⟩ := List.mem_map.1 hxs
  exact h w hw

theorem State.samplesWf.dealWith (h : s.samplesWf) {b : BlockInProgress} (hb : b.fits) :
    (s.dealWith b).samplesWf := by
  obtain ⟨_, hblocks⟩ := s.samplesWf_iff.1 h
  unfold State.dealWith
  dsimp only
  generalize hu : ({ s with inProgress := none, tracks := _ } : State) = u
  have hwf : u.samplesWf := by
    rw [← hu]
    exact ⟨fun _ hnone => (nomatch hnone), hblocks⟩
  exact hwf.ringAtBoundary _ (s.finishedBlock_fits hb)

theorem State.samplesWf.judged (h : s.samplesWf) : s.judged.samplesWf := by
  rw [s.judged_eq]
  exact h.congr rfl rfl

theorem State.samplesWf.fixedAndAsked (h : s.samplesWf) (before : Option (Fin 32)) (cls : BlockClass)
    (after : Nat) : (s.fixNext.askFloor before cls after).samplesWf := by
  obtain ⟨g, r, e, m, heq, _⟩ := s.fixNext.askFloor_keeps before cls after rfl
  rw [heq]
  exact h.congr rfl rfl

theorem State.samplesWf.turn (h : s.samplesWf) (floorAfter : Nat) : (s.turn floorAfter).samplesWf := by
  cases hb : s.inProgress with
  | none =>
    rw [s.turn_none floorAfter hb]
    exact h.judged.fixedAndAsked _ _ _
  | some b =>
    obtain ⟨hprogress, _⟩ := s.samplesWf_iff.1 h
    rw [s.turn_some floorAfter b hb]
    exact (h.judged.dealWith (hprogress b hb)).fixedAndAsked _ _ _

theorem State.samplesWf.beginBoundary (h : s.samplesWf) : s.beginBoundary.samplesWf := by
  obtain ⟨a, w, c, heq⟩ := s.beginBoundary_keeps
  have hended := h.endPeriod
  rw [heq]
  generalize s.endPeriod = u at hended
  exact hended.congr rfl rfl

theorem State.samplesWf.closeNow (h : s.samplesWf) : s.closeNow.samplesWf := by
  obtain ⟨r, e, m, heq⟩ := s.closeNow_keeps
  rw [heq]
  exact h.congr rfl rfl

theorem State.samplesWf.takeTarget (h : s.samplesWf) : s.takeTarget.samplesWf := by
  obtain ⟨x, g, r, e, m, heq⟩ := s.takeTarget_keeps
  rw [heq]
  exact h.congr rfl rfl

theorem State.samplesWf.takeArmed (h : s.samplesWf) : s.takeArmed.samplesWf := by
  cases hp : s.plans.armed with
  | none =>
    rw [State.takeArmed, hp]
    exact h
  | some plan =>
    obtain ⟨g, r, e, m, heq⟩ := s.takeArmed_keeps plan hp
    rw [heq]
    exact h.congr rfl rfl

theorem State.samplesWf.takeGains (h : s.samplesWf) (order : List (Fin 32)) : (s.takeGains order).samplesWf := by
  obtain ⟨x, c, g, r, e, m, heq⟩ := s.takeGains_keeps order
  rw [heq]
  exact h.congr rfl rfl

theorem State.samplesWf.takeSource (h : s.samplesWf) : s.takeSource.samplesWf := by
  cases hx : s.changes.source with
  | none =>
    rw [State.takeSource, hx]
    exact h
  | some x =>
    obtain ⟨g, r, e, m, heq⟩ := s.takeSource_keeps x hx
    rw [heq]
    exact h.congr rfl rfl

theorem State.samplesWf.takeReturn (h : s.samplesWf) : s.takeReturn.samplesWf := by
  obtain ⟨g, r, e, m, heq⟩ := s.takeReturn_keeps
  rw [heq]
  exact h.congr rfl rfl

theorem State.samplesWf.ifDue (h : s.samplesWf) (due : State → Bool) {act : State → State}
    (hact : ∀ u : State, u.samplesWf → (act u).samplesWf) : (s.ifDue due act).samplesWf := .ite (hact s h) h

theorem State.samplesWf.finishTurned (h : s.samplesWf) : s.finishTurned.samplesWf := by
  have hclose := h.ifDue State.closeDue fun _ => State.samplesWf.closeNow
  have htarget := hclose.ifDue State.targetDue fun _ => State.samplesWf.takeTarget
  have hplan := htarget.ifDue State.planDue fun _ => State.samplesWf.takeArmed
  have hgain := hplan.ifDue State.gainDue fun _ hu => hu.takeGains []
  have hsource := hgain.ifDue State.sourceDue fun _ => State.samplesWf.takeSource
  have hreturn := hsource.ifDue State.boundaryReturnDue fun _ => State.samplesWf.takeReturn
  unfold State.finishTurned
  dsimp only
  generalize State.ifDue _ State.boundaryReturnDue _ = u at hreturn
  obtain ⟨g, r, e, m, heq⟩ := u.flushFloor_keeps
  rw [heq]
  exact hreturn.congr rfl rfl

theorem State.samplesWf.finishBoundary (h : s.samplesWf) : s.finishBoundary.samplesWf := by
  unfold State.finishBoundary
  split
  · exact h
  · exact (h.turn 0).finishTurned
  · exact h.finishTurned

theorem State.samplesWf.reachTurned (h : s.samplesWf) (floorAfter : Nat) :
    (s.reachTurned floorAfter).samplesWf := by
  have hbegun : s.reachBegun.samplesWf := .ite h.beginBoundary h
  unfold State.reachTurned
  dsimp only
  split
  · exact hbegun.turn floorAfter
  · exact hbegun
  · exact hbegun

theorem State.samplesWf.atBoundary (h : s.samplesWf) (due : State → Bool) {act : State → State}
    (hact : ∀ u : State, u.samplesWf → (act u).samplesWf) : (s.atBoundary due act).samplesWf :=
  .ite (hact _ (h.reachTurned 0)) h

theorem State.samplesWf.samplePeriod (h : s.samplesWf) (edge : Bool) (levels : BenchLevels) :
    (s.samplePeriod edge levels).samplesWf := by
  have hended : (if s.boundaryDue then s.beginBoundary else if s.inPeriod then s.endPeriod else s).samplesWf :=
    .ite h.beginBoundary (.ite h.endPeriod h)
  exact hended.finishBoundary.startPeriod edge levels

/-! ### Frames -/

theorem State.samplesWf.delivered (h : s.samplesWf) (p : Port) (d : Delivery) : (s.delivered p d).samplesWf := by
  unfold State.delivered
  dsimp only
  split
  · exact h
  · exact (h.congr rfl rfl : (s.setReader p _).samplesWf).evaluate p
  · exact (h.congr rfl rfl : (s.setReader p _).samplesWf).drainLost

theorem State.samplesWf.rise (h : s.samplesWf) (p : Port) (more : Nat) : (s.rise p more).samplesWf := by
  have hend : ∀ x : Transfer, (s.endTransfer p x).samplesWf := fun x => by
    unfold State.endTransfer
    dsimp only
    generalize hu : State.setResult _ p _ = u
    have hwf : u.samplesWf := by
      rw [← hu]
      exact h.congr rfl rfl
    exact .ite (hwf.delivered p _) hwf
  unfold State.rise
  split
  · exact h
  · exact hend _

theorem frameStable_samplesWf : FrameStable State.samplesWf where
  ports _ _ h := h.congr rfl rfl
  finish _ h := h.finishBoundary
  rise _ p more h := h.rise p more

/-! ### The commands of the ports -/

theorem State.samplesWf.setReader (h : s.samplesWf) (p : Port) (x : Reader) : (s.setReader p x).samplesWf :=
  h.congr rfl rfl

theorem State.samplesWf.attach (h : s.samplesWf) (p : Port) (position : Byte) :
    (s.attach p position).2.samplesWf :=
  .answered h (.answered h (.answered h ((h.setReader p _).evaluate p)))

theorem State.samplesWf.detach (h : s.samplesWf) (p : Port) : (s.detach p).2.samplesWf :=
  .answered (h.setReader p _).drainGap.drainLost h

theorem State.samplesWf.release (h : s.samplesWf) (p : Port) (seq : Nat) : (s.release p seq).2.samplesWf :=
  .answered h (.answered h ((h.setReader p _).evaluate p).drainGap)

theorem State.samplesWf.seek (h : s.samplesWf) (p : Port) (seq : Nat) : (s.seek p seq).2.samplesWf :=
  .answered h (.answered h (.answered h ((h.setReader p _).evaluate p)))

theorem State.samplesWf.portReset (h : s.samplesWf) (p : Port) : (s.portReset p).2.samplesWf := by
  have hclear : (s.clearPort p).samplesWf := h.congr rfl rfl
  exact hclear.drainGap.drainLost

theorem State.samplesWf.placeHold (h : s.samplesWf) (p : Port) (first last : Nat) :
    (s.placeHold p first last).2.samplesWf := by
  refine .answered h (.answered h ?_)
  split
  · exact h
  · exact h.congr rfl rfl

theorem State.samplesWf.dropHold (h : s.samplesWf) (p : Port) (entry : Nat) :
    (s.dropHold p entry).2.samplesWf := by
  have hdropped : ∀ holds, State.samplesWf { s with ring := s.ring.withHolds holds } := fun _ => h.congr rfl rfl
  unfold State.dropHold
  split
  · split
    · exact h
    · exact .answered (hdropped _).drainGap h
  · exact h

theorem State.samplesWf.addNote (h : s.samplesWf) (p : Port) (option : Byte) (time arg tag : Nat) :
    (s.addNote p option time arg tag).2.samplesWf :=
  .answered h (.answered h (h.requestMark _))

/-- An opened Session starts with an empty ring and no Block in progress (R82, R83). -/
theorem State.samplesWf.openSession (h : s.samplesWf) (p : Port) (flag : Byte) :
    (s.openSession p flag).2.samplesWf := by
  have hcleared : ∀ verify, (s.cleared verify).samplesWf := fun _ => State.samplesWf_empty rfl rfl
  have hopened : ∀ verify, (s.opened p verify).samplesWf := fun verify =>
    ((hcleared verify).requestMark _).raiseBoth .state
  exact .answered h (.answered h (.answered h (hopened _)))

theorem State.samplesWf.requestClose (h : s.samplesWf) (p : Port) : (s.requestClose p).2.samplesWf :=
  .answered h (.answered h (h.setProc _))

theorem State.samplesWf.setState (h : s.samplesWf) (p : Port) (code : Byte) : (s.setState p code).2.samplesWf := by
  unfold State.setState
  split
  · exact h
  · exact h.request _ _

theorem State.samplesWf.planSetGroup (h : s.samplesWf) (p : Port) (entry first count : Nat) (code : Byte) :
    (s.planSetGroup p entry first count code).2.samplesWf := by
  unfold State.planSetGroup
  split
  · split
    · exact h
    · exact h.congr rfl rfl
  · exact h

theorem State.samplesWf.planSetFormat (h : s.samplesWf) (p : Port) (width total : Nat) :
    (s.planSetFormat p width total).2.samplesWf :=
  .answered (h.congr rfl rfl) (.answered (h.congr rfl rfl) h)

theorem State.samplesWf.activatePlan (h : s.samplesWf) (expected : BitVec 16) :
    (s.activatePlan expected).2.samplesWf := by
  refine .answered h ?_
  split
  · exact h
  · exact .answered h (.answered (h.congr rfl rfl) (h.congr rfl rfl))

theorem State.samplesWf.setGain (h : s.samplesWf) (track gain : Nat) : (s.setGain track gain).2.samplesWf := by
  unfold State.setGain
  split
  · exact h
  · exact .ite (h.congr rfl rfl) (h.congr rfl rfl)

theorem State.samplesWf.disableStore (h : s.samplesWf) (p : Port) : (s.disableStore p).2.samplesWf :=
  .answered h (h.congr rfl rfl)

theorem State.samplesWf.storeSettings (h : s.samplesWf) (p : Port) : (s.storeSettings p).2.samplesWf :=
  .answered h (.answered h (h.congr rfl rfl))

/-- No setting reaches a Block (R190). -/
theorem State.samplesWf.written (h : s.samplesWf) {x : SettingName} {v : Nat} (ht : s.written x v = some t) :
    t.samplesWf := by
  have heither : ∀ {a b : State}, a.inProgress = s.inProgress → a.ring = s.ring → b.inProgress = s.inProgress →
      b.ring = s.ring → (if s.sessionOpen then a else b).samplesWf := fun ha hra hb hrb =>
    .ite (h.congr ha (congrArg Ring.blocks hra)) (h.congr hb (congrArg Ring.blocks hrb))
  cases x with
  | bench => exact nomatch ht
  | threshold | attack | hangover | margin | challenge =>
    obtain ⟨w, _, rfl⟩ := Option.map_eq_some_iff.1 ht
    exact heither rfl rfl rfl rfl
  | eligible k =>
    obtain ⟨w, _, rfl⟩ := Option.map_eq_some_iff.1 ht
    exact .ite (h.congr rfl rfl) (.ite (h.congr rfl rfl) (h.congr rfl rfl))
  | source =>
    obtain ⟨w, _, rfl⟩ := Option.map_eq_some_iff.1 ht
    have hwaits : State.samplesWf { s with changes := { s.changes with source := none } } := h.congr rfl rfl
    exact .ite (h.congr rfl rfl) (hwaits.applySource w)
  | linkEnable n =>
    obtain ⟨w, _, rfl⟩ := Option.map_eq_some_iff.1 ht
    exact h.enableLink n w
  | fill | latency | lanes | retention | access | guard =>
    obtain ⟨w, _, rfl⟩ := Option.map_eq_some_iff.1 ht
    exact h.congr rfl rfl

theorem State.samplesWf.writeSetting (h : s.samplesWf) (id value : Nat) :
    (s.writeSetting id value).2.samplesWf := by
  unfold State.writeSetting
  split
  · exact h
  · split
    · exact h
    · rename_i ht
      exact .answered h (h.written ht)

/-! ### Power, RESET and the store -/

theorem State.samplesWf.completeLoad (h : s.samplesWf) : s.completeLoad.samplesWf := by
  unfold State.completeLoad
  dsimp only
  split
  · exact h.congr rfl rfl
  · exact h.congr rfl rfl

theorem State.samplesWf.assertReset (h : s.samplesWf) : s.assertReset.samplesWf := by
  have hreset : ∀ u : State, u.underReset.samplesWf := fun _ => State.samplesWf_empty rfl rfl
  unfold State.assertReset
  split
  · exact h.congr rfl rfl
  · exact hreset s
  · exact hreset s.finishBoundary

theorem State.samplesWf.completeStore (h : s.samplesWf) : s.completeStore.samplesWf := by
  unfold State.completeStore
  split
  · exact h
  · exact .ite (h.congr rfl rfl) (h.congr rfl rfl)

theorem State.samplesWf.execSamplePeriod (h : s.samplesWf) (edge : Bool) (levels : BenchLevels) :
    ∃ t, exec (.samplePeriod edge levels) s = .next t ∧ t.samplesWf := by
  cases hp : s.power with
  | off => exact ⟨s, by simp [exec, Machine.execSamplePeriod, hp], h⟩
  | loading => exact ⟨s, by simp [exec, Machine.execSamplePeriod, hp], h⟩
  | running =>
    cases hr : s.resetLine with
    | false => exact ⟨_, exec_samplePeriod edge levels s hp hr, h.samplePeriod edge levels⟩
    | true =>
      exact ⟨{ s with frameSyncs := s.frameSyncs + 1 }, by simp [exec, Machine.execSamplePeriod, hp, hr],
        h.congr rfl rfl⟩

/-! ### Every command -/

/-- Every command keeps the samples of every Block within its width. -/
theorem State.samplesWf.exec (h : s.samplesWf) (i : Instr) : ∃ t, exec i s = .next t ∧ t.samplesWf := by
  have hframe := frameStable_samplesWf
  have hwrite := fun (p : Port) (f : Frame) (n : Nat) (act : State → List Byte → Result × State)
    (hact : ∀ t bs, t.samplesWf → (act t bs).2.samplesWf) => hframe.writeFrame s p f n hact h
  have hread := fun (p : Port) (f : Frame) (n : Nat) refusal data => hframe.readFrame s p f n refusal data h
  have htransfer := fun (p : Port) (f : Frame) refusal fixed =>
    hframe.transferFrame s p f refusal fixed (fun t x (ht : t.samplesWf) => ht.setReader p _) h
  cases i with
  | powerOn => exact ⟨_, rfl, State.samplesWf_empty rfl rfl⟩
  | settingsLoadComplete => exact ⟨_, rfl, .ite h.completeLoad h⟩
  | powerLoss => exact ⟨_, rfl, State.samplesWf_empty rfl rfl⟩
  | resetAssert => exact ⟨_, rfl, .ite h h.assertReset⟩
  | resetRelease => exact ⟨_, rfl, .ite (h.congr rfl rfl) h⟩
  | samplePeriod edge levels => exact h.execSamplePeriod edge levels
  | linkFrame n x => exact ⟨_, rfl, .ite (h.receiveLink n x) h⟩
  | linkLock n x => exact ⟨_, rfl, h.receiveTransition n x _ _⟩
  | linkSeekTimeout n x => exact ⟨_, rfl, h.receiveTransition n x _ _⟩
  | linkRelock n x => exact ⟨_, rfl, h.receiveTransition n x _ _⟩
  | linkDown n x => exact ⟨_, rfl, h.receiveTransition n x _ _⟩
  | houseClockLoss =>
    have hexamined : s.examineHouse.samplesWf := h.congr rfl rfl
    exact ⟨_, rfl, .ite hexamined.loseHouse h⟩
  | houseClockReturn =>
    have hexamined : s.examineHouse.samplesWf := h.congr rfl rfl
    exact ⟨_, rfl, .ite hexamined.houseReturns (h.atBoundary _ fun _ => State.samplesWf.takeReturn)⟩
  | benchLineAccept l => exact ⟨_, rfl, .ite (h.acceptLine l) h⟩
  | blockBoundary k => exact ⟨_, rfl, .ite (h.reachTurned k) h⟩
  | storeGapBlock => exact ⟨_, rfl, .ite h.finishBoundary.drainGap h⟩
  | pendingTargetTake => exact ⟨_, rfl, h.atBoundary _ fun _ => State.samplesWf.takeTarget⟩
  | sessionClose => exact ⟨_, rfl, h.atBoundary _ fun _ => State.samplesWf.closeNow⟩
  | sessionLengthLimit => exact ⟨_, rfl, h.atBoundary _ fun _ => State.samplesWf.closeNow⟩
  | planActivate => exact ⟨_, rfl, h.atBoundary _ fun _ => State.samplesWf.takeArmed⟩
  | pendingGainApply order => exact ⟨_, rfl, h.atBoundary _ fun _ hu => hu.takeGains order⟩
  | pendingSettingApply => exact ⟨_, rfl, .ite h.beginBoundary h⟩
  | clockSourceApply => exact ⟨_, rfl, h.atBoundary _ fun _ => State.samplesWf.takeSource⟩
  | marksLostStore => exact ⟨_, rfl, .ite h.finishBoundary.drainLost h⟩
  | storeCompletion => exact ⟨_, rfl, h.completeStore⟩
  | zeroByteFrame => exact ⟨_, rfl, h⟩
  | frameDuringLoad p f =>
    exact ⟨_, rfl, .ite h (hframe.takeFrame s p _ _ _ (fun _ ht => ht.congr rfl rfl) h)⟩
  | shortFrame p f => exact ⟨_, rfl, .ite (hframe.takeFrame s p _ _ _ (fun _ ht => ht.congr rfl rfl) h) h⟩
  | unknownCommand p code f => exact ⟨_, rfl, .ite (hframe.takeCommand s p f (fun _ ht => ht.congr rfl rfl) h) h⟩
  | status p f => exact ⟨_, rfl, hread p f _ _ _⟩
  | readEvents p f => exact ⟨_, rfl, hread p f _ _ _⟩
  | readHolds p f => exact ⟨_, rfl, hread p f _ _ _⟩
  | readPlan p f => exact ⟨_, rfl, hread p f _ _ _⟩
  | readTracks p f => exact ⟨_, rfl, hread p f _ _ _⟩
  | readLinks p f => exact ⟨_, rfl, hread p f _ _ _⟩
  | readSetting p f => exact ⟨_, rfl, hread p f _ _ _⟩
  | readBlock p f => exact ⟨_, rfl, htransfer p f _ _⟩
  | readMarks p f => exact ⟨_, rfl, htransfer p f _ _⟩
  | readBlockEnd p edges => exact ⟨_, rfl, hframe.riseOf s p true edges h⟩
  | readMarksEnd p edges => exact ⟨_, rfl, hframe.riseOf s p false edges h⟩
  | ackEvents p f => exact ⟨_, rfl, hwrite p f _ _ fun _ _ ht => ht.congr rfl rfl⟩
  | setMask p f => exact ⟨_, rfl, hwrite p f _ _ fun _ _ ht => ht.congr rfl rfl⟩
  | portReset p f => exact ⟨_, rfl, hwrite p f _ _ fun _ _ ht => ht.portReset p⟩
  | attach p f => exact ⟨_, rfl, hwrite p f _ _ fun _ _ ht => ht.attach p _⟩
  | detach p f => exact ⟨_, rfl, hwrite p f _ _ fun _ _ ht => ht.detach p⟩
  | release p f => exact ⟨_, rfl, hwrite p f _ _ fun _ _ ht => ht.release p _⟩
  | seek p f => exact ⟨_, rfl, hwrite p f _ _ fun _ _ ht => ht.seek p _⟩
  | setAvailLevel p f => exact ⟨_, rfl, hwrite p f _ _ fun _ _ ht => (ht.setReader p _).evaluate p⟩
  | setLagLevel p f => exact ⟨_, rfl, hwrite p f _ _ fun _ _ ht => (ht.setReader p _).evaluate p⟩
  | placeHold p f => exact ⟨_, rfl, hwrite p f _ _ fun _ _ ht => ht.placeHold p _ _⟩
  | dropHold p f => exact ⟨_, rfl, hwrite p f _ _ fun _ _ ht => ht.dropHold p _⟩
  | addNote p f => exact ⟨_, rfl, hwrite p f _ _ fun _ _ ht => ht.addNote p _ _ _ _⟩
  | openSession p f => exact ⟨_, rfl, hwrite p f _ _ fun _ _ ht => ht.openSession p _⟩
  | closeSession p f => exact ⟨_, rfl, hwrite p f _ _ fun _ _ ht => ht.requestClose p⟩
  | setState p f => exact ⟨_, rfl, hwrite p f _ _ fun _ _ ht => ht.setState p _⟩
  | planClear p f => exact ⟨_, rfl, hwrite p f _ _ fun _ _ ht => ht.congr rfl rfl⟩
  | planSetGroup p f => exact ⟨_, rfl, hwrite p f _ _ fun _ _ ht => ht.planSetGroup p _ _ _ _⟩
  | planSetFormat p f => exact ⟨_, rfl, hwrite p f _ _ fun _ _ ht => ht.planSetFormat p _ _⟩
  | activatePlan p f => exact ⟨_, rfl, hwrite p f _ _ fun _ _ ht => ht.activatePlan _⟩
  | setGain p f => exact ⟨_, rfl, hwrite p f _ _ fun _ _ ht => ht.setGain _ _⟩
  | writeSetting p f => exact ⟨_, rfl, hwrite p f _ _ fun _ _ ht => ht.writeSetting _ _⟩
  | enableStore p f => exact ⟨_, rfl, hwrite p f _ _ fun _ _ ht => ht.congr rfl rfl⟩
  | disableStore p f => exact ⟨_, rfl, hwrite p f _ _ fun _ _ ht => ht.disableStore p⟩
  | storeSettings p f => exact ⟨_, rfl, hwrite p f _ _ fun _ _ ht => ht.storeSettings p⟩

/-- Settles O59: the front command by `State.samplesWf.exec`; what is stored was saturated
(`TrackWork.take_fits`), and is stored at the width it was saturated to (`State.finishedBlock_fits`). -/
theorem samplesKept : Obligations.SamplesKept := by
  unfold Obligations.SamplesKept
  intro s t h hstep
  unfold step at hstep
  split at hstep
  · cases hstep
    exact h
  · rename_i i rest _
    have hrest : State.samplesWf { s with pending := rest } := h.congr rfl rfl
    obtain ⟨u, hu, hwf⟩ := hrest.exec i
    rw [hu] at hstep
    cases hstep
    exact hwf

end Sys2Proof.Machine
end

section
/-! The Activity Monitor: Table 4.3, and the activity and floor settings that a Block Boundary puts into effect (R62,
R64 to R68). -/

namespace Sys2Proof.Machine

/-! ### Table 4.3 -/

section
variable (x : TrackActivity) {c : TrackSettings} {peak : Nat}

theorem TrackActivity.update_quiet_soft (hs : x.state = .quiet) (hl : ¬c.threshold ≤ peak) :
    x.update c peak = x := by
  simp [TrackActivity.update, hs, hl]

theorem TrackActivity.update_quiet_loud (hs : x.state = .quiet) (hl : c.threshold ≤ peak) :
    x.update c peak = if c.attack = 1 then ⟨.active, 0, c.hangover⟩ else ⟨.rising, 1, 0⟩ := by
  simp [TrackActivity.update, hs, hl]

theorem TrackActivity.update_rising_soft (hs : x.state = .rising) (hl : ¬c.threshold ≤ peak) :
    x.update c peak = ⟨.quiet, 0, 0⟩ := by
  simp [TrackActivity.update, hs, hl]

theorem TrackActivity.update_rising_loud (hs : x.state = .rising) (hl : c.threshold ≤ peak) :
    x.update c peak =
      if c.attack ≤ x.attack + 1 then ⟨.active, 0, c.hangover⟩ else ⟨.rising, x.attack + 1, 0⟩ := by
  simp [TrackActivity.update, hs, hl]

/-- ACTIVE and HANGING have the same rows (R67, R68). -/
theorem TrackActivity.update_held_loud (hs : x.state = .active ∨ x.state = .hanging) (hl : c.threshold ≤ peak) :
    x.update c peak = ⟨.active, 0, c.hangover⟩ := by
  obtain hs | hs := hs <;> simp [TrackActivity.update, hs, hl]

theorem TrackActivity.update_held_soft (hs : x.state = .active ∨ x.state = .hanging) (hl : ¬c.threshold ≤ peak) :
    x.update c peak = if x.hang = 0 then ⟨.quiet, 0, 0⟩ else ⟨.hanging, 0, x.hang - 1⟩ := by
  obtain hs | hs := hs <;> simp [TrackActivity.update, hs, hl]

end

/-- Settles O50: one equation of `TrackActivity.update` for each Activity State and loudness. -/
theorem activityTable : Obligations.ActivityTable := by
  unfold Obligations.ActivityTable
  intro x c peak loud t
  refine ⟨x.update_quiet_soft, fun hs hl ha => ?_, fun hs hl ha => ?_, fun hs hl ha => ?_, fun hs hl ha => ?_,
    x.update_rising_soft, x.update_held_loud, fun hs hl hh => ?_, fun hs hl hh => ?_⟩
  · exact (x.update_quiet_loud hs hl).trans (if_pos ha)
  · exact (x.update_quiet_loud hs hl).trans (if_neg ha)
  · exact (x.update_rising_loud hs hl).trans (if_pos ha)
  · exact (x.update_rising_loud hs hl).trans (if_neg ha.not_ge)
  · exact (x.update_held_soft hs hl).trans (if_pos hh)
  · exact (x.update_held_soft hs hl).trans (if_neg hh.ne')

/-! ### Pending activity and floor settings (R62) -/

theorem exec_pendingSettingApply (s : State) : exec .pendingSettingApply s =
    .next (if s.boundaryDue && s.settingWaiting then s.beginBoundary else s) := rfl

theorem State.applySettings_margin (s : State) : s.applySettings.settings.general.margin =
    s.changes.margin.getD s.settings.general.margin := rfl

theorem State.applySettings_challenge (s : State) : s.applySettings.settings.general.challenge =
    s.changes.challenge.getD s.settings.general.challenge := rfl

theorem State.applySettings_track (s : State) (k : Fin 32) : s.applySettings.settings.general.track[k] =
    (s.settings.general.track[k]).taking s.changes.track[k] :=
  Vector.getElem_ofFn k.isLt

theorem State.applySettings_activity (s : State) (k : Fin 32) : s.applySettings.activity[k] =
    (s.activity[k]).lowered (s.changes.track[k]).hangover :=
  Vector.getElem_ofFn k.isLt

theorem State.applySettings_waiting (s : State) : s.applySettings.settingWaiting = false := by
  have htrack : noChanges.track.toList.any PendingTrack.waiting = false := by decide
  simp [State.settingWaiting, State.applySettings, htrack]

theorem State.settingWaiting_congr {s t : State} (h : t.changes = s.changes) :
    t.settingWaiting = s.settingWaiting := by
  unfold State.settingWaiting
  rw [h]

/-- A boundary begins with the end of its period, and then applies what waits (R62, R64). -/
theorem State.beginBoundary_applied (s : State) :
    s.beginBoundary.settings = s.endPeriod.applySettings.settings ∧
      s.beginBoundary.activity = s.endPeriod.applySettings.activity ∧
      s.beginBoundary.changes = s.endPeriod.applySettings.changes := by
  unfold State.beginBoundary
  exact ⟨rfl, rfl, rfl⟩

/-- What waits when the 480th Sample Period begins to end is what the boundary applies (R62, R64). -/
theorem State.endPeriod_settings (s : State) : s.endPeriod.settings = s.settings ∧
    s.endPeriod.changes = s.changes ∧ s.endPeriod.activity = s.activity := by
  obtain ⟨l, x, b, t, r, e, m, hend, _⟩ := s.endPeriod_keeps
  rw [hend]
  exact ⟨rfl, rfl, rfl⟩

/-- Settles O49: the row begins the boundary (`State.beginBoundary_ended`), whose first work is
`State.applySettings` on what waited as the period ended. -/
theorem pendingSettingsApply : Obligations.PendingSettingsApply := by
  unfold Obligations.PendingSettingsApply
  intro s hdue hwait
  obtain ⟨hsettings, hchanges, hactivity⟩ := s.endPeriod_settings
  obtain ⟨hset, hact, hleft⟩ := s.beginBoundary_applied
  obtain ⟨_, hring, hclock, _⟩ := s.beginBoundary_ended hdue
  have hexec : exec .pendingSettingApply s = .next s.beginBoundary := by
    rw [exec_pendingSettingApply, hdue, hwait]
    exact congrArg _ (if_pos rfl)
  refine ⟨_, hexec, rfl, ?_, ?_, fun k => ⟨?_, fun h hh => ?_⟩, ?_, hclock, hring⟩
  · rw [hset, State.applySettings_margin, hsettings, hchanges]
  · rw [hset, State.applySettings_challenge, hsettings, hchanges]
  · rw [hset, State.applySettings_track, hsettings, hchanges]
    rfl
  · rw [hact, State.applySettings_activity, hactivity, hchanges, hh]
    rfl
  · rw [State.settingWaiting_congr hleft, State.applySettings_waiting]

end Sys2Proof.Machine
end

section
/-! The Floor Arbiter: the leading candidate, and the decision on a finished Block (R69 to R72). -/

namespace Sys2Proof.Machine

/-! ### The leading candidate -/

/-- A Track is the loudest of some, and the lowest Track number among those of equal Peak (R71, R72). -/
def IsLoudest (peaks : List Nat) (among : Fin 32 → Prop) (t : Fin 32) : Prop :=
  among t ∧ ∀ u, among u → peakOf peaks u ≤ peakOf peaks t ∧ (peakOf peaks u = peakOf peaks t → t ≤ u)

theorem IsLoudest.unique {peaks : List Nat} {among : Fin 32 → Prop} {t u : Fin 32} (ht : IsLoudest peaks among t)
    (hu : IsLoudest peaks among u) : t = u := by
  obtain ⟨htu, htie⟩ := ht.2 u hu.1
  obtain ⟨hut, htie'⟩ := hu.2 t ht.1
  have heq : peakOf peaks t = peakOf peaks u := le_antisymm hut htu
  exact le_antisymm (htie heq.symm) (htie' heq)

theorem IsLoudest.congr {peaks : List Nat} {p q : Fin 32 → Prop} {t : Fin 32} (h : ∀ u, p u ↔ q u)
    (ht : IsLoudest peaks p t) : IsLoudest peaks q t :=
  ⟨(h t).1 ht.1, fun u hu => ht.2 u ((h u).2 hu)⟩

/-- Of Tracks in ascending order, `loudest` finds the loudest, if there is one. -/
theorem loudest_spec (peaks : List Nat) (ts : List (Fin 32)) (h : ts.Pairwise (· < ·)) :
    (∃ t, loudest peaks ts = some t ∧ IsLoudest peaks (· ∈ ts) t) ∨ loudest peaks ts = none ∧ ts = [] := by
  induction ts with
  | nil => exact .inr ⟨rfl, rfl⟩
  | cons t ts ih =>
    obtain ⟨hfirst, hrest⟩ := List.pairwise_cons.1 h
    refine .inl ?_
    obtain ⟨u, hu, hmem, hbest⟩ | ⟨hnone, rfl⟩ := ih hrest
    · simp only [loudest, hu]
      split
      · rename_i hle
        refine ⟨t, rfl, List.mem_cons_self,
          List.forall_mem_cons.2 ⟨⟨le_rfl, fun _ => le_rfl⟩, fun v hv => ?_⟩⟩
        exact ⟨(hbest v hv).1.trans hle, fun _ => (hfirst v hv).le⟩
      · rename_i hlt
        refine ⟨u, rfl, List.mem_cons_of_mem _ hmem, List.forall_mem_cons.2 ⟨?_, hbest⟩⟩
        exact ⟨(not_le.1 hlt).le, fun heq => absurd heq.ge hlt⟩
    · refine ⟨t, by rw [loudest, hnone], List.mem_cons_self, fun v hv => ?_⟩
      obtain rfl := List.mem_singleton.1 hv
      exact ⟨le_rfl, fun _ => le_rfl⟩

/-- A candidate for the Floor (R71). -/
def State.Candidate (s : State) (peaks : List Nat) (holder : Option (Fin 32)) (t : Fin 32) : Prop :=
  t.val < peaks.length ∧ (s.activity[t]).state = .active ∧ (s.settings.general.track[t]).eligible = true ∧
    holder ≠ some t

theorem State.isCandidate_iff (s : State) (peaks : List Nat) (holder : Option (Fin 32)) (t : Fin 32) :
    s.isCandidate peaks holder t = true ↔ s.Candidate peaks holder t := by
  simp only [State.isCandidate, State.Candidate, Bool.and_eq_true, decide_eq_true_eq]
  tauto

theorem State.leader_spec (s : State) (peaks : List Nat) (holder : Option (Fin 32)) :
    (∃ t, s.leader peaks holder = some t ∧ IsLoudest peaks (s.Candidate peaks holder) t) ∨
      s.leader peaks holder = none ∧ ∀ u, ¬s.Candidate peaks holder u := by
  have hmem : ∀ u, u ∈ (List.finRange 32).filter (s.isCandidate peaks holder) ↔ s.Candidate peaks holder u :=
    fun u => by rw [List.mem_filter, s.isCandidate_iff, and_iff_right (List.mem_finRange u)]
  obtain ⟨t, ht, hbest⟩ | ⟨hnone, hempty⟩ :=
    loudest_spec peaks _ ((List.pairwise_lt_finRange 32).filter (s.isCandidate peaks holder))
  · exact .inl ⟨t, ht, hbest.congr hmem⟩
  · refine .inr ⟨hnone, fun u hu => ?_⟩
    rw [← hmem u, hempty] at hu
    exact List.not_mem_nil hu

theorem State.leader_some (s : State) {peaks : List Nat} {holder : Option (Fin 32)} {t : Fin 32}
    (ht : IsLoudest peaks (s.Candidate peaks holder) t) : s.leader peaks holder = some t := by
  obtain ⟨u, hu, hbest⟩ | ⟨_, hnone⟩ := s.leader_spec peaks holder
  · rw [hu, hbest.unique ht]
  · exact absurd ht.1 (hnone t)

theorem State.leader_none (s : State) {peaks : List Nat} {holder : Option (Fin 32)}
    (h : ∀ u, ¬s.Candidate peaks holder u) : s.leader peaks holder = none := by
  obtain ⟨u, _, hbest⟩ | ⟨hnone, _⟩ := s.leader_spec peaks holder
  · exact absurd hbest.1 (h u)
  · exact hnone

theorem State.leader_active (s : State) {peaks : List Nat} {holder : Option (Fin 32)} {t : Fin 32}
    (h : s.leader peaks holder = some t) : (s.activity[t]).state = .active := by
  obtain ⟨u, hu, hbest⟩ | ⟨hnone, _⟩ := s.leader_spec peaks holder
  · obtain rfl : u = t := Option.some.inj (hu.symm.trans h)
    exact hbest.1.2.1
  · rw [hnone] at h
    cases h

/-! ### The decision, by what the holder is and who leads -/

/-- A holder that is QUIET or not eligible loses the Floor (R70). -/
def State.loses (s : State) (h : Fin 32) : Prop :=
  (s.activity[h]).state = .quiet ∨ (s.settings.general.track[h]).eligible = false

theorem State.floorFreed_empty (s : State) (h : s.floor.holder = none) : s.floorFreed = s.floor := by
  unfold State.floorFreed
  rw [h]

theorem State.floorFreed_lost (s : State) {h : Fin 32} (hh : s.floor.holder = some h) (hl : s.loses h) :
    s.floorFreed = startFloor := by
  unfold State.floorFreed
  rw [hh]
  exact if_pos hl

theorem State.floorFreed_kept (s : State) {h : Fin 32} (hh : s.floor.holder = some h) (hl : ¬s.loses h) :
    s.floorFreed = s.floor := by
  unfold State.floorFreed
  rw [hh]
  exact if_neg hl

section
variable (s : State) {peaks : List Nat}

theorem State.floorDecision_unclaimed (hf : s.floorFreed.holder = none) (hc : s.leader peaks none = none) :
    s.floorDecision peaks = s.floorFreed := by
  simp only [State.floorDecision, hf, hc]

theorem State.floorDecision_taken {t : Fin 32} (hf : s.floorFreed.holder = none)
    (hc : s.leader peaks none = some t) : s.floorDecision peaks = ⟨some t, none, 0⟩ := by
  simp only [State.floorDecision, hf, hc]

theorem State.floorDecision_unchallenged {h : Fin 32} (hf : s.floorFreed.holder = some h)
    (hc : s.leader peaks (some h) = none) : s.floorDecision peaks = ⟨some h, none, 0⟩ := by
  simp only [State.floorDecision, hf, hc]

theorem State.floorDecision_led {h t : Fin 32} (hf : s.floorFreed.holder = some h)
    (hc : s.leader peaks (some h) = some t) : s.floorDecision peaks =
      if peakOf peaks t < peakOf peaks h + s.settings.general.margin then ⟨some h, none, 0⟩
      else s.challenged s.floorFreed h t := by
  simp only [State.floorDecision, hf, hc]
  exact if_congr (by omega) rfl rfl

end

/-- Settles O51: what the holder is decides `State.floorFreed`, the candidates decide `State.leader`, and the two
together decide the branch of the decision. -/
theorem floorDecision : Obligations.FloorDecision := by
  unfold Obligations.FloorDecision
  intro s peaks candidate leads lost f count
  refine ⟨fun t hf ht => ?_, fun hh hu => ?_, fun h hh hl hu => ?_, fun h hh hl hu => ?_,
    fun h t hh hl ht => ⟨fun hm => ?_, fun hm hk => ?_, fun hm hk => ?_⟩⟩
  · have hempty : s.floorFreed.holder = none := by
      obtain hh | ⟨h, hh, hl⟩ := hf
      · rw [s.floorFreed_empty hh, hh]
      · rw [s.floorFreed_lost hh hl]
        rfl
    exact s.floorDecision_taken hempty (s.leader_some ht)
  · have hfreed := s.floorFreed_empty hh
    exact (s.floorDecision_unclaimed (by rw [hfreed, hh]) (s.leader_none hu)).trans hfreed
  · have hfreed := s.floorFreed_lost hh hl
    exact (s.floorDecision_unclaimed (by rw [hfreed]; rfl) (s.leader_none hu)).trans hfreed
  · exact s.floorDecision_unchallenged (by rw [s.floorFreed_kept hh hl, hh]) (s.leader_none hu)
  all_goals
    have hfreed := s.floorFreed_kept hh hl
    refine (s.floorDecision_led (by rw [hfreed, hh]) (s.leader_some ht)).trans ?_
  · exact if_pos hm
  · refine (if_neg hm.not_gt).trans ?_
    rw [hfreed]
    exact if_neg hk.not_ge
  · refine (if_neg hm.not_gt).trans ?_
    rw [hfreed]
    exact if_pos hk

end Sys2Proof.Machine
end

section
/-! A Frame on a running part: an open Block Boundary is finished and the port's transfer ends before its row acts
(R64, R167; log entries 7 and 12). -/

namespace Sys2Proof.Machine

/-! ### The commands of Table 9.2 are Frames -/

/-- Every command of Table 9.2 is taken as a Frame, what its row does depending on the state it meets alone. -/
theorem portCommand_takes {i : Instr} {p : Port} {f : Frame} (h : portCommand i = some (p, f)) :
    ∃ act, ∀ s : State, exec i s = .next (s.takeCommand p f act) := by
  cases i <;> cases h <;> exact ⟨_, fun _ => rfl⟩

/-! ### What a chip-select rise leaves -/

theorem State.evaluate_flight (s : State) (p : Port) :
    ((s.evaluate p).readers.get p).flight = (s.readers.get p).flight := by
  have hset : ((s.setReader p ((s.readers.get p).evaluated s.ring.next)).readers.get p).flight =
      (s.readers.get p).flight := by
    rw [State.setReader, Both.get_set]
    rfl
  unfold State.evaluate
  dsimp only
  split <;> split <;> exact hset

/-- A freeing of Marks puts no transfer in flight (R144, R158). -/
theorem State.storeMark_noFlight (s : State) (q : MarkRequest) (p : Port) (h : (s.readers.get p).flight = none) :
    ((s.storeMark q).readers.get p).flight = none := by
  have hfree : (s.freeMark.readers.get p).flight = none := by
    have hreaders : s.freeMark.readers = s.readers.map fun x => x.afterMarkFreeing s.marks.oldest := by
      unfold State.freeMark State.raiseMarkCut
      dsimp only
      split <;> split <;> rfl
    rw [hreaders, Both.get_map, Reader.afterMarkFreeing]
    split
    · simp [h]
    · exact h
  unfold State.storeMark
  dsimp only
  split
  · exact hfree
  · exact h

theorem State.drainLost_noFlight (s : State) (p : Port) (h : (s.readers.get p).flight = none) :
    (s.drainLost.readers.get p).flight = none := by
  unfold State.drainLost
  split
  · exact s.storeMark_noFlight s.lostRequest p h
  · exact h

theorem State.delivered_keeps (s : State) (p : Port) (d : Delivery) :
    ∃ r e m, s.delivered p d = { s with readers := r, events := e, marks := m } := by
  unfold State.delivered
  dsimp only
  split
  · exact ⟨_, _, _, rfl⟩
  · obtain ⟨r, e, h⟩ := (s.setReader p _).evaluate_keeps p
    exact ⟨r, e, _, h⟩
  · obtain ⟨r, e, m, h⟩ := (s.setReader p _).drainLost_keeps
    exact ⟨r, e, m, h⟩

theorem State.delivered_noFlight (s : State) (p : Port) (d : Delivery) (h : (s.readers.get p).flight = none) :
    ((s.delivered p d).readers.get p).flight = none := by
  have hset : ∀ x : Reader, x.flight = none → ((s.setReader p x).readers.get p).flight = none := fun x hx => by
    rw [State.setReader, Both.get_set, hx]
  unfold State.delivered
  dsimp only
  split
  · exact h
  · rw [State.evaluate_flight]
    exact hset _ h
  · exact State.drainLost_noFlight _ p (hset _ h)

/-- A chip-select rise reaches the port, the Readers, the Mark List and the Event Flags, and leaves the port with no
transfer in flight (R137, R143). -/
theorem State.rise_keeps (s : State) (p : Port) (more : Nat) :
    (∃ r o e m, s.rise p more = { s with readers := r, ports := o, events := e, marks := m }) ∧
      ((s.rise p more).readers.get p).flight = none := by
  cases hf : (s.readers.get p).flight with
  | none =>
    have hrise : s.rise p more = s := by rw [State.rise, hf]
    rw [hrise]
    exact ⟨⟨_, _, _, _, rfl⟩, hf⟩
  | some x =>
    simp only [State.rise, hf, State.endTransfer]
    generalize hu : State.setResult _ p _ = u
    have hflight : (u.readers.get p).flight = none := by
      rw [← hu]
      exact congrArg Reader.flight (Both.get_set _ _ _)
    split
    · obtain ⟨r, e, m, hd⟩ := u.delivered_keeps p x.delivery
      refine ⟨⟨r, u.ports, e, m, ?_⟩, u.delivered_noFlight p _ hflight⟩
      rw [hd, ← hu]
      rfl
    · exact ⟨⟨_, _, _, _, hu.symm⟩, hflight⟩

/-! ### The state that a Frame meets -/

theorem State.finishBoundary_keeps (s : State) : s.finishBoundary.stage = .idle ∧
    s.finishBoundary.power = s.power ∧ s.finishBoundary.resetLine = s.resetLine := by
  cases hs : s.stage with
  | idle =>
    rw [s.finishBoundary_idle hs]
    exact ⟨hs, rfl, rfl⟩
  | begun =>
    obtain ⟨_, _, _, _, _, _, _, _, _, _, _, hturn, _⟩ := s.turn_keeps 0
    obtain ⟨hkeeps, hidle⟩ := (s.turn 0).finishTurned_keeps
    simp only [State.finishBoundary, hs]
    exact ⟨hidle, hkeeps.power.trans (by rw [hturn]), hkeeps.resetLine.trans (by rw [hturn])⟩
  | turned next wait =>
    obtain ⟨hkeeps, hidle⟩ := s.finishTurned_keeps
    simp only [State.finishBoundary, hs]
    exact ⟨hidle, hkeeps.power, hkeeps.resetLine⟩

/-- A port of a running part is ready once the boundary is finished and its transfer has ended. -/
theorem State.settled_ready (s : State) (p : Port) (hl : s.live = true) : (s.finishBoundary.rise p 0).ready p := by
  obtain ⟨hpower, hreset⟩ := s.live_iff.1 hl
  obtain ⟨hidle, hpower', hreset'⟩ := s.finishBoundary_keeps
  obtain ⟨⟨r, o, e, m, hrise⟩, hflight⟩ := s.finishBoundary.rise_keeps p 0
  refine ⟨?_, ?_, ?_, hflight⟩ <;> rw [hrise]
  · exact hpower'.trans hpower
  · exact hreset'.trans hreset
  · exact hidle

/-- Settles O6: a Frame acts on what `State.takeFrame_live` says it meets, and a port that is ready meets itself. -/
theorem framesFinishWhatIsOpen : Obligations.FramesFinishWhatIsOpen := by
  unfold Obligations.FramesFinishWhatIsOpen
  intro i p f s hi hl hf
  obtain ⟨act, hact⟩ := portCommand_takes hi
  obtain ⟨hpower, hreset⟩ := s.live_iff.1 hl
  have hready := s.settled_ready p hl
  refine ⟨?_, hready⟩
  rw [hact, hact, State.takeCommand, State.takeCommand, hf, s.takeFrame_live p _ _ act hpower hreset,
    State.takeFrame_ready _ p _ _ act hready]

end Sys2Proof.Machine
end

section
/-! What neither decides the Floor nor opens, turns or closes a Session: the operations that the invariants of the
Floor Arbiter and the Proceedings Controller do not notice (R69, R78, R84). -/

namespace Sys2Proof.Machine

/-! ### Requests to the Proceedings Controller -/

/-- What a request, a Bench Line or the clock leaves of the Proceedings Controller: the same Session, open or closed
as before, nothing asked of CLOSED, and a pending CLOSE never withdrawn (R84, R85 to R88, R97). -/
structure Proceedings.Asked (x y : Proceedings) : Prop where
  session : y.session = x.session
  periods : y.periods = x.periods
  closed : y.state = .closed ↔ x.state = .closed
  quiet : x.state = .closed → y.target = x.target ∧ y.restricted = x.restricted
  close : x.closePending = true → y.closePending = true

theorem Proceedings.Asked.refl (x : Proceedings) : x.Asked x := ⟨rfl, rfl, .rfl, fun _ => ⟨rfl, rfl⟩, id⟩

theorem Proceedings.Asked.trans {x y z : Proceedings} (h : x.Asked y) (k : y.Asked z) : x.Asked z where
  session := k.session.trans h.session
  periods := k.periods.trans h.periods
  closed := k.closed.trans h.closed
  quiet hc := by
    obtain ⟨htarget, hrestricted⟩ := h.quiet hc
    obtain ⟨htarget', hrestricted'⟩ := k.quiet (h.closed.2 hc)
    exact ⟨htarget'.trans htarget, hrestricted'.trans hrestricted⟩
  close hc := k.close (h.close hc)

/-- In an open Session the target and the state may change as long as a pending CLOSE stays. -/
theorem Proceedings.Asked.of_open {x y : Proceedings} (hsession : y.session = x.session)
    (hperiods : y.periods = x.periods) (hx : x.state ≠ .closed) (hy : y.state ≠ .closed)
    (hclose : x.closePending = true → y.closePending = true) : x.Asked y :=
  ⟨hsession, hperiods, iff_of_false hy hx, fun hc => absurd hc hx, hclose⟩

theorem Proceedings.closePending_congr {x y : Proceedings} (h : y.target = x.target) :
    y.closePending = x.closePending := by
  unfold Proceedings.closePending
  rw [h]

/-- The clock and the Bench Lines are nothing that a Session hangs on. -/
theorem Proceedings.Asked.ticked (x : Proceedings) (clock : Nat) (opening : Bool) (lines : BenchLines) :
    x.Asked { x with clock := clock, opening := opening, lines := lines } :=
  ⟨rfl, rfl, .rfl, fun _ => ⟨rfl, rfl⟩, id⟩

/-! ### The relation -/

/-- A Block Boundary's stage, but for the FLOOR Mark that may wait. -/
def BoundaryStage.bare : BoundaryStage → BoundaryStage
  | .idle => .idle
  | .begun => .begun
  | .turned next _ => .turned next none

/-- One state follows another by nothing that decides the Floor, or that opens, turns or closes a Session. -/
structure State.Routine (s t : State) : Prop where
  floor : t.floor = s.floor
  activity : ∀ i : Fin 32, (t.activity[i]).state = (s.activity[i]).state
  proc : s.proc.Asked t.proc
  inProgress : s.inProgress = none → t.inProgress = none
  stage : t.stage.bare = s.stage.bare
  inPeriod : t.inPeriod = true → s.inPeriod = true

/-- The parts of the state that the relation looks at. -/
def State.court (s : State) :
    Floor × Vector TrackActivity 32 × Proceedings × Option BlockInProgress × BoundaryStage × Bool :=
  (s.floor, s.activity, s.proc, s.inProgress, s.stage, s.inPeriod)

section
variable {s t u : State}

theorem State.Routine.same (h : t.court = s.court) : s.Routine t := by
  simp only [State.court, Prod.mk.injEq] at h
  obtain ⟨hfloor, hactivity, hproc, hinProgress, hstage, hinPeriod⟩ := h
  exact ⟨hfloor, fun i => by rw [hactivity], hproc ▸ .refl _, hinProgress.trans, by rw [hstage],
    hinPeriod.symm.trans⟩

theorem State.Routine.refl (s : State) : s.Routine s := .same rfl

theorem State.Routine.trans (h : s.Routine t) (k : t.Routine u) : s.Routine u where
  floor := k.floor.trans h.floor
  activity i := (k.activity i).trans (h.activity i)
  proc := h.proc.trans k.proc
  inProgress hs := k.inProgress (h.inProgress hs)
  stage := k.stage.trans h.stage
  inPeriod hu := h.inPeriod (k.inPeriod hu)

theorem State.Routine.ite {c : Prop} [Decidable c] (ht : s.Routine t) (hu : s.Routine u) :
    s.Routine (if c then t else u) := iteInduction (fun _ => ht) fun _ => hu

/-- Both answers of a command. -/
theorem State.Routine.answered {c : Prop} [Decidable c] {x y : Result × State} (hx : s.Routine x.2)
    (hy : s.Routine y.2) : s.Routine (if c then x else y).2 :=
  iteInduction (motive := fun z : Result × State => s.Routine z.2) (fun _ => hx) fun _ => hy

theorem State.Routine.foldl {α : Type} {f : State → α → State}
    (hf : ∀ (s : State) (a : α), s.Routine (f s a)) (xs : List α) (s : State) : s.Routine (xs.foldl f s) := by
  induction xs generalizing s with
  | nil => exact .refl s
  | cons a xs ih => exact (hf s a).trans (ih (f s a))

theorem State.Routine.setProc {x : Proceedings} (h : s.proc.Asked x) : s.Routine (s.setProc x) :=
  ⟨rfl, fun _ => rfl, h, id, rfl, id⟩

theorem State.Routine.restage {g : BoundaryStage} (h : g.bare = s.stage.bare) :
    s.Routine { s with stage := g } := ⟨rfl, fun _ => rfl, .refl _, id, h, id⟩

theorem State.Routine.stage_idle (h : s.Routine t) : t.stage = .idle ↔ s.stage = .idle := by
  have hstage := h.stage
  revert hstage
  cases s.stage <;> cases t.stage <;> simp [BoundaryStage.bare]

theorem State.Routine.stage_turned (h : s.Routine t) {next : ProceedingsState}
    {wait : Option (Nat × Option (Fin 32) × Bool)} (ht : t.stage = .turned next wait) :
    ∃ wait', s.stage = .turned next wait' := by
  have hstage := h.stage
  rw [ht] at hstage
  revert hstage
  cases s.stage <;> simp [BoundaryStage.bare, eq_comm]

theorem State.Routine.sessionOpen (h : s.Routine t) : t.sessionOpen = s.sessionOpen := by
  rw [Bool.eq_iff_iff, State.sessionOpen_iff, State.sessionOpen_iff]
  exact not_congr h.proc.closed

/-- A closing that is to be made at this boundary stays so (R91, R92). -/
theorem State.Routine.closesHere (h : s.Routine t) (hs : s.closesHere = true) : t.closesHere = true := by
  unfold State.closesHere at hs ⊢
  rw [h.proc.periods]
  rw [Bool.or_eq_true] at hs ⊢
  exact hs.imp_left h.proc.close

end

/-! ### The ring, the Marks and the Readers -/

section
variable (s : State)

theorem State.Routine.evaluate (p : Port) : s.Routine (s.evaluate p) := by
  obtain ⟨r, e, heq⟩ := s.evaluate_keeps p
  rw [heq]
  exact .same rfl

theorem State.Routine.drainGap : s.Routine s.drainGap := by
  obtain ⟨r, e, x, heq⟩ := s.drainGap_keeps
  rw [heq]
  exact .same rfl

theorem State.Routine.drainLost : s.Routine s.drainLost := by
  obtain ⟨r, e, m, heq⟩ := s.drainLost_keeps
  rw [heq]
  exact .same rfl

theorem State.Routine.requestMark (q : MarkRequest) : s.Routine (s.requestMark q) := by
  obtain ⟨r, e, m, heq⟩ := s.requestMark_keeps q
  rw [heq]
  exact .same rfl

theorem State.Routine.raiseBoth (e : Event) : s.Routine (s.raiseBoth e) := .same rfl

theorem State.Routine.setReader (p : Port) (x : Reader) : s.Routine (s.setReader p x) := .same rfl

theorem State.Routine.rise (p : Port) (more : Nat) : s.Routine (s.rise p more) := by
  obtain ⟨⟨r, o, e, m, heq⟩, _⟩ := s.rise_keeps p more
  rw [heq]
  exact .same rfl

/-! ### The clock and the links -/

theorem State.Routine.receiveLink (n : Fin 8) (x : LinkInput) : s.Routine (s.receiveLink n x) := by
  obtain ⟨r, e, m, heq⟩ := s.receiveLink_keeps n x
  rw [heq]
  exact .same rfl

theorem State.Routine.receiveTransition (n : Fin 8) (x : LinkInput) (before after : LinkState) :
    s.Routine (s.receiveTransition n x before after) := .ite (.receiveLink s n x) (.refl s)

theorem State.Routine.enableLink (n : Fin 8) (on : Bool) : s.Routine (s.enableLink n on) := by
  obtain ⟨l, r, e, m, heq⟩ := s.enableLink_keeps n on
  rw [heq]
  exact .same rfl

theorem State.Routine.loseHouse : s.Routine s.loseHouse := by
  obtain ⟨r, e, m, heq⟩ := s.loseHouse_keeps
  rw [heq]
  exact .same rfl

theorem State.Routine.houseReturns : s.Routine s.houseReturns := by
  obtain ⟨e, heq⟩ := s.setClockState_keeps .house
  rw [State.houseReturns, heq]
  exact .same rfl

theorem State.Routine.applySource (x : ClockSource) : s.Routine (s.applySource x) := by
  obtain ⟨e, heq⟩ := s.applySource_keeps x
  rw [heq]
  exact .same rfl

theorem State.Routine.examineHouse : s.Routine s.examineHouse := .same rfl

/-! ### Requests and the Bench Lines -/

/-- SIDEBAR is entered from an open Session, where a pending CLOSE stays (R87, R97). -/
theorem State.Routine.enterSidebar (who : Party) (target : Option (Target × Party)) (ho : s.proc.state ≠ .closed)
    (hclose : s.proc.closePending = true → target = s.proc.target) : s.Routine (s.enterSidebar who target) := by
  obtain ⟨r, e, m, heq⟩ := s.enterSidebar_keeps who target
  rw [heq]
  refine ⟨rfl, fun _ => rfl, .of_open rfl rfl ho nofun fun hc => ?_, id, rfl, id⟩
  rwa [Proceedings.closePending_congr (hclose hc)]

/-- In CLOSED, and while CLOSE is pending, a request changes nothing (R84). -/
theorem State.request_refused (wanted : ProceedingsState) (who : Party)
    (h : s.proc.closePending = true ∨ s.proc.state = .closed) : (s.request wanted who).2 = s := by
  unfold State.request
  split
  · rfl
  · rename_i hc
    have hclosed := h.resolve_left hc
    cases wanted <;> simp [State.requestOff, State.requestOn, State.requestSidebar, hclosed]

theorem State.Routine.request (wanted : ProceedingsState) (who : Party) :
    s.Routine (s.request wanted who).2 := by
  by_cases h : s.proc.closePending = true ∨ s.proc.state = .closed
  · rw [s.request_refused wanted who h]
    exact .refl s
  · obtain ⟨hclose, hopen⟩ := not_or.1 h
    obtain ⟨r, e, m, t, heq | ⟨_, heq⟩⟩ := s.request_keeps wanted who <;> rw [heq]
    · exact ⟨rfl, fun _ => rfl, .of_open rfl rfl hopen hopen fun hc => absurd hc hclose, id, rfl, id⟩
    · exact ⟨rfl, fun _ => rfl, .of_open rfl rfl hopen nofun fun hc => absurd hc hclose, id, rfl, id⟩

theorem State.Routine.setState (p : Port) (code : Byte) : s.Routine (s.setState p code).2 := by
  unfold State.setState
  split
  · exact .refl s
  · exact .request s _ _

theorem State.Routine.requestClose (p : Port) : s.Routine (s.requestClose p).2 := by
  unfold State.requestClose
  split
  · exact .refl s
  · rename_i ho
    have hopen : s.proc.state ≠ .closed := s.sessionOpen_iff.1 (by simpa using ho)
    exact .answered (.refl s) (.setProc (.of_open rfl rfl hopen hopen fun _ => rfl))

theorem State.Routine.privacyRise : s.Routine s.privacyRise := by
  unfold State.privacyRise
  split
  · rename_i ho
    exact .enterSidebar s _ _ (by rw [ho]; nofun) fun hc => if_pos hc
  all_goals exact .refl s

theorem State.Routine.privacyFall : s.Routine s.privacyFall := by
  unfold State.privacyFall
  split
  · rename_i ho
    have hopen : s.proc.state ≠ .closed := by rw [ho]; nofun
    split
    · rename_i hnone
      refine .setProc (.of_open rfl rfl hopen hopen fun hc => ?_)
      rw [Proceedings.closePending_iff, hnone] at hc
      cases hc
    · exact .refl s
  all_goals exact .refl s

theorem State.Routine.lineChanged (l : Line) (level : Bool) (x : BenchLine) :
    s.Routine (s.lineChanged l level x) := by
  cases l <;> cases level
  case onRec.true | offRec.true => exact .request s _ _
  case privacy.true => exact .privacyRise s
  case privacy.false => exact .privacyFall s
  case mark.true => exact .requestMark s _
  all_goals exact .refl s

theorem State.Routine.acceptLine (l : Line) : s.Routine (s.acceptLine l) :=
  (State.Routine.setProc (.ticked s.proc s.proc.clock s.proc.opening _)).trans (.lineChanged _ l _ _)

/-! ### A Sample Period and what waits for a boundary -/

theorem State.Routine.examined : s.Routine s.examined := by
  obtain ⟨l, r, e, m, hmiss⟩ := s.missLinks_keeps
  have hlinks : s.Routine s.missLinks := by
    rw [hmiss]
    exact .same rfl
  have hbench : s.missLinks.Routine s.missLinks.settleBench :=
    .foldl (fun u l => .ite (.acceptLine u l) (.refl u)) _ _
  exact (hlinks.trans hbench).trans (.examineHouse _)

theorem State.Routine.countPeriod : s.Routine s.countPeriod := by
  obtain ⟨b, t, e, heq, hnone⟩ := s.trackPeriod_keeps
  have htrack : s.Routine s.trackPeriod := by
    rw [heq]
    exact ⟨rfl, fun _ => rfl, .refl _, hnone, rfl, id⟩
  exact .ite (htrack.trans (.setProc (.ticked _ _ _ _))) (.refl s)

theorem State.Routine.endPeriod : s.Routine s.endPeriod := by
  have hloss : s.examined.Routine s.examined.settleLoss := .ite (.loseHouse _) (.refl _)
  have hreturn : s.examined.settleLoss.Routine s.examined.settleLoss.settleReturn := .ite (.houseReturns _) (.refl _)
  have hcount := (((State.Routine.examined s).trans hloss).trans hreturn).trans (.countPeriod _)
  rw [s.endPeriod_eq]
  generalize s.examined.settleLoss.settleReturn.countPeriod = u at hcount
  exact hcount.trans ⟨rfl, fun _ => rfl, .refl _, id, rfl, nofun⟩

/-- A new hangover lowers a hang counter, and changes no Activity State (R62). -/
theorem TrackActivity.lowered_state (x : TrackActivity) (hangover : Option Nat) :
    (x.lowered hangover).state = x.state := by
  cases hangover <;> rfl

theorem State.Routine.applySettings : s.Routine s.applySettings := by
  have hstates : ∀ i : Fin 32, (s.applySettings.activity[i]).state = (s.activity[i]).state := fun i => by
    rw [s.applySettings_activity, TrackActivity.lowered_state]
  obtain ⟨a, w, c, heq⟩ := s.applySettings_keeps
  rw [heq] at hstates ⊢
  exact ⟨rfl, hstates, .refl _, id, rfl, id⟩

/-! ### The Marks of a boundary -/

theorem State.Routine.flushFloor : s.Routine s.flushFloor := by
  unfold State.flushFloor
  split
  · rename_i hs
    exact (State.Routine.restage (by rw [hs]; rfl)).trans (.requestMark _ _)
  all_goals exact .refl s

theorem State.Routine.boundaryMark (q : MarkRequest) : s.Routine (s.boundaryMark q) := by
  refine (State.Routine.requestMark s q).trans ?_
  unfold State.boundaryMark
  dsimp only
  generalize s.requestMark q = t
  split
  · rename_i hs
    have hcounted := fun w => State.Routine.restage (s := t) (g := .turned _ w) (by rw [hs]; rfl)
    exact .ite ((hcounted _).trans (.flushFloor _)) (hcounted _)
  all_goals exact .refl t

theorem State.Routine.askFloor (before : Option (Fin 32)) (cls : BlockClass) (after : Nat) :
    s.Routine (s.askFloor before cls after) := by
  unfold State.askFloor
  split
  · rename_i hs
    have hasked := fun w => State.Routine.restage (s := s) (g := .turned _ w) (by rw [hs]; rfl)
    exact .ite (.ite ((hasked _).trans (.flushFloor _)) (hasked _)) (.refl s)
  all_goals exact .refl s

theorem State.Routine.markSource (before : ClockSource) : s.Routine (s.markSource before) :=
  .ite (.refl s) (.boundaryMark s _)

theorem State.Routine.takeGains (order : List (Fin 32)) : s.Routine (s.takeGains order) := by
  refine .foldl (fun u k => ?_) _ s
  cases hk : u.changes.gain[k] with
  | none =>
    rw [u.takeGain_none k hk]
    exact .refl u
  | some v =>
    have hset : u.Routine (u.withGain k v) := .same rfl
    rw [u.takeGain_some k hk]
    exact hset.trans (.boundaryMark _ _)

theorem State.Routine.takeSource : s.Routine s.takeSource := by
  unfold State.takeSource
  split
  · exact .refl s
  · have htaken : s.Routine { s with changes := { s.changes with source := none } } := .same rfl
    exact (htaken.trans (.applySource _ _)).trans (.markSource _ _)

theorem State.Routine.takeReturn : s.Routine s.takeReturn :=
  (State.Routine.houseReturns s).trans (.markSource _ _)

/-! ### The commands of the ports -/

theorem State.Routine.readerEvaluated (p : Port) (x : Reader) : s.Routine ((s.setReader p x).evaluate p) :=
  (State.Routine.setReader s p x).trans (.evaluate _ p)

theorem State.Routine.attach (p : Port) (position : Byte) : s.Routine (s.attach p position).2 :=
  .answered (.refl s) (.answered (.refl s) (.answered (.refl s) (.readerEvaluated s p _)))

theorem State.Routine.detach (p : Port) : s.Routine (s.detach p).2 :=
  .answered (((State.Routine.setReader s p _).trans (.drainGap _)).trans (.drainLost _)) (.refl s)

theorem State.Routine.release (p : Port) (seq : Nat) : s.Routine (s.release p seq).2 :=
  .answered (.refl s) (.answered (.refl s)
    ((State.Routine.readerEvaluated s p _).trans (.drainGap _)))

theorem State.Routine.seek (p : Port) (seq : Nat) : s.Routine (s.seek p seq).2 :=
  .answered (.refl s) (.answered (.refl s) (.answered (.refl s) (.readerEvaluated s p _)))

theorem State.Routine.portReset (p : Port) : s.Routine (s.portReset p).2 := by
  have hclear : s.Routine (s.clearPort p) := .same rfl
  exact (hclear.trans (.drainGap _)).trans (.drainLost _)

theorem State.Routine.placeHold (p : Port) (first last : Nat) : s.Routine (s.placeHold p first last).2 := by
  refine .answered (.refl s) (.answered (.refl s) ?_)
  split
  · exact .refl s
  · exact .same rfl

theorem State.Routine.dropHold (p : Port) (entry : Nat) : s.Routine (s.dropHold p entry).2 := by
  have hdropped : ∀ holds, s.Routine { s with ring := s.ring.withHolds holds } := fun _ => .same rfl
  unfold State.dropHold
  split
  · split
    · exact .refl s
    · exact .answered ((hdropped _).trans (.drainGap _)) (.refl s)
  · exact .refl s

theorem State.Routine.addNote (p : Port) (option : Byte) (time arg tag : Nat) :
    s.Routine (s.addNote p option time arg tag).2 :=
  .answered (.refl s) (.answered (.refl s) (.requestMark s _))

theorem State.Routine.planSetGroup (p : Port) (entry first count : Nat) (code : Byte) :
    s.Routine (s.planSetGroup p entry first count code).2 := by
  unfold State.planSetGroup
  split
  · split
    · exact .refl s
    · exact .same rfl
  · exact .refl s

theorem State.Routine.planSetFormat (p : Port) (width total : Nat) :
    s.Routine (s.planSetFormat p width total).2 :=
  .answered (.same rfl) (.answered (.same rfl) (.refl s))

theorem State.Routine.setGain (track gain : Nat) : s.Routine (s.setGain track gain).2 := by
  unfold State.setGain
  split
  · exact .refl s
  · exact .ite (.same rfl) (.same rfl)

theorem State.Routine.disableStore (p : Port) : s.Routine (s.disableStore p).2 := .answered (.refl s) (.same rfl)

theorem State.Routine.storeSettings (p : Port) : s.Routine (s.storeSettings p).2 :=
  .answered (.refl s) (.answered (.refl s) (.same rfl))

/-! ### The load and the store -/

theorem State.Routine.completeLoad : s.Routine s.completeLoad := by
  unfold State.completeLoad
  dsimp only
  exact .ite (.same rfl) (.same rfl)

theorem State.Routine.completeStore : s.Routine s.completeStore := by
  unfold State.completeStore
  split
  · exact .refl s
  · exact .ite (.same rfl) (.same rfl)

end

end Sys2Proof.Machine
end

section
/-! A property of the Floor and the Session through every command, from what it makes of the few operations that
decide the Floor or open, turn or close a Session. -/

namespace Sys2Proof.Machine

/-- A property that everything routine keeps, and every operation that decides the Floor or opens, turns or closes a
Session. -/
structure SessionStable (P : State → Prop) : Prop where
  routine : ∀ {s t : State}, P s → s.Routine t → P t
  powered : ∀ image : Image, P (State.powered image)
  freed : ∀ (s : State) (a : Vector TrackActivity 32), P s → P { s with floor := startFloor, activity := a }
  cleared : ∀ (s : State) (verify : Bool), P (s.cleared verify)
  startPeriod : ∀ (s : State) (edge : Bool) (levels : BenchLevels), P s → s.stage = .idle →
    P (s.startPeriod edge levels)
  begun : ∀ s : State, P s → s.inPeriod = false → P { s with stage := .begun }
  turn : ∀ (s : State) (floorAfter : Nat), P s → s.stage = .begun → P (s.turn floorAfter)
  closeNow : ∀ s : State, P s → s.closeDue = true → P s.closeNow
  takeTarget : ∀ s : State, P s → s.targetDue = true → P s.takeTarget
  ended : ∀ s : State, P s → P { s with stage := .idle }

variable {P : State → Prop}

/-! ### Plans -/

theorem SessionStable.activate (h : SessionStable P) (s : State) (plan : Plan) (hs : P s) : P (s.activate plan) :=
  h.routine (h.freed s (Vector.replicate 32 startActivity) hs) (.same rfl)

theorem SessionStable.activatePlan (h : SessionStable P) (s : State) (expected : BitVec 16) (hs : P s) :
    P (s.activatePlan expected).2 := by
  unfold State.activatePlan
  split
  · exact hs
  · split
    · exact hs
    · split
      · exact hs
      · split
        · exact h.routine hs (.same rfl)
        · exact h.activate s _ hs

theorem SessionStable.takeArmed (h : SessionStable P) (s : State) (hs : P s) : P s.takeArmed := by
  unfold State.takeArmed
  split
  · exact hs
  · exact h.routine (h.activate s _ hs) (.boundaryMark _ _)

/-! ### The Block Boundary -/

theorem SessionStable.ifDue {s : State} {due : State → Bool} {act : State → State} (hs : P s)
    (hact : due s = true → P (act s)) : P (s.ifDue due act) := iteInduction hact fun _ => hs

theorem SessionStable.finishTurned (h : SessionStable P) (s : State) (hs : P s) : P s.finishTurned := by
  have hclose := SessionStable.ifDue (due := State.closeDue) hs (h.closeNow s hs)
  have htarget := SessionStable.ifDue (due := State.targetDue) hclose (h.takeTarget _ hclose)
  have hplan := SessionStable.ifDue (due := State.planDue) htarget fun _ => h.takeArmed _ htarget
  have hgain := SessionStable.ifDue (due := State.gainDue) (act := fun u => u.takeGains []) hplan
    fun _ => h.routine hplan (.takeGains _ [])
  have hsource := SessionStable.ifDue (due := State.sourceDue) hgain fun _ => h.routine hgain (.takeSource _)
  have hreturn := SessionStable.ifDue (due := State.boundaryReturnDue) hsource
    fun _ => h.routine hsource (.takeReturn _)
  exact h.ended _ (h.routine hreturn (.flushFloor _))

theorem SessionStable.finishBoundary (h : SessionStable P) (s : State) (hs : P s) : P s.finishBoundary := by
  unfold State.finishBoundary
  split
  · exact hs
  · rename_i hbegun
    exact h.finishTurned _ (h.turn s 0 hs hbegun)
  · exact h.finishTurned s hs

theorem SessionStable.beginBoundary (h : SessionStable P) (s : State) (hs : P s) : P s.beginBoundary := by
  have hended : s.endPeriod.applySettings.inPeriod = false := by
    obtain ⟨a, w, c, heq⟩ := s.endPeriod.applySettings_keeps
    rw [heq, s.endPeriod_eq]
  exact h.begun _ (h.routine hs ((State.Routine.endPeriod s).trans (.applySettings _))) hended

theorem SessionStable.reachTurned (h : SessionStable P) (s : State) (floorAfter : Nat) (hs : P s) :
    P (s.reachTurned floorAfter) := by
  have hbegun : P s.reachBegun := iteInduction (fun _ => h.beginBoundary s hs) fun _ => hs
  unfold State.reachTurned
  dsimp only
  split
  · rename_i hstage
    exact h.turn _ floorAfter hbegun hstage
  · exact hbegun
  · exact hbegun

theorem SessionStable.atBoundary (h : SessionStable P) (s : State) (due : State → Bool) {act : State → State}
    (hact : ∀ u : State, P u → due u = true → P (act u)) (hs : P s) : P (s.atBoundary due act) :=
  iteInduction (fun hd => hact _ (h.reachTurned s 0 hs) (Bool.and_eq_true_iff.1 hd).2) fun _ => hs

theorem SessionStable.samplePeriod (h : SessionStable P) (s : State) (edge : Bool) (levels : BenchLevels)
    (hs : P s) : P (s.samplePeriod edge levels) := by
  have hended : P (if s.boundaryDue then s.beginBoundary else if s.inPeriod then s.endPeriod else s) :=
    iteInduction (fun _ => h.beginBoundary s hs) fun _ =>
      iteInduction (fun _ => h.routine hs (.endPeriod s)) fun _ => hs
  obtain ⟨hidle, _⟩ := State.finishBoundary_keeps
    (if s.boundaryDue then s.beginBoundary else if s.inPeriod then s.endPeriod else s)
  exact h.startPeriod _ edge levels (h.finishBoundary _ hended) hidle

theorem SessionStable.execSamplePeriod (h : SessionStable P) (s : State) (edge : Bool) (levels : BenchLevels)
    (hs : P s) : ∃ t, exec (.samplePeriod edge levels) s = .next t ∧ P t := by
  cases hp : s.power with
  | off => exact ⟨s, by simp [exec, Machine.execSamplePeriod, hp], hs⟩
  | loading => exact ⟨s, by simp [exec, Machine.execSamplePeriod, hp], hs⟩
  | running =>
    cases hr : s.resetLine with
    | false => exact ⟨_, exec_samplePeriod edge levels s hp hr, h.samplePeriod s edge levels hs⟩
    | true =>
      exact ⟨{ s with frameSyncs := s.frameSyncs + 1 }, by simp [exec, Machine.execSamplePeriod, hp, hr],
        h.routine hs (.same rfl)⟩

/-! ### Frames, RESET, and the commands that free the Floor or open a Session -/

theorem SessionStable.frameStable (h : SessionStable P) : FrameStable P where
  ports _ _ hs := h.routine hs (.same rfl)
  finish := h.finishBoundary
  rise s p more hs := h.routine hs (.rise s p more)

theorem SessionStable.assertReset (h : SessionStable P) (s : State) (hs : P s) : P s.assertReset := by
  have hreset : ∀ u : State, P u.underReset := fun u => h.routine (h.powered u.image) (.same rfl)
  unfold State.assertReset
  split
  · exact h.routine hs (.same rfl)
  · exact hreset s
  · exact hreset s.finishBoundary

theorem SessionStable.openSession (h : SessionStable P) (s : State) (p : Port) (flag : Byte) (hs : P s) :
    P (s.openSession p flag).2 := by
  have hopened : ∀ verify, P (s.opened p verify) := fun verify =>
    h.routine (h.cleared s verify) ((State.Routine.requestMark _ _).trans (.raiseBoth _ .state))
  unfold State.openSession
  split
  · exact hs
  · split
    · exact hs
    · split
      · exact hs
      · exact hopened _

/-- A written setting reaches no Activity State, and the Floor only to free it (R62, R190). -/
theorem SessionStable.written (h : SessionStable P) {s t : State} {x : SettingName} {v : Nat} (hs : P s)
    (ht : s.written x v = some t) : P t := by
  cases x with
  | bench => exact nomatch ht
  | threshold | attack | margin | challenge =>
    obtain ⟨w, _, rfl⟩ := Option.map_eq_some_iff.1 ht
    exact h.routine hs (.ite (.same rfl) (.same rfl))
  | hangover k =>
    obtain ⟨w, _, rfl⟩ := Option.map_eq_some_iff.1 ht
    have hstates : ∀ i : Fin 32, ((s.activity.set k ((s.activity[k]).lowered (some w)))[i]).state =
        (s.activity[i]).state := fun i => by
      by_cases hi : k = i
      · subst hi
        simp [TrackActivity.lowered]
      · have hne : (k : Nat) ≠ i := fun hk => hi (Fin.ext hk)
        simp [hne]
    exact h.routine hs (.ite (.same rfl) ⟨rfl, hstates, .refl _, id, rfl, id⟩)
  | eligible k =>
    obtain ⟨w, _, rfl⟩ := Option.map_eq_some_iff.1 ht
    unfold State.writeEligible
    split
    · exact h.routine hs (.same rfl)
    · dsimp only
      split
      · exact h.routine (h.freed s s.activity hs) (.same rfl)
      · exact h.routine hs (.same rfl)
  | source =>
    obtain ⟨w, _, rfl⟩ := Option.map_eq_some_iff.1 ht
    have hwaits : s.Routine { s with changes := { s.changes with source := none } } := .same rfl
    exact h.routine hs (.ite (.same rfl) (hwaits.trans (.applySource _ w)))
  | linkEnable n =>
    obtain ⟨w, _, rfl⟩ := Option.map_eq_some_iff.1 ht
    exact h.routine hs (.enableLink s n w)
  | fill | latency | lanes | retention | access | guard =>
    obtain ⟨w, _, rfl⟩ := Option.map_eq_some_iff.1 ht
    exact h.routine hs (.same rfl)

theorem SessionStable.writeSetting (h : SessionStable P) (s : State) (id value : Nat) (hs : P s) :
    P (s.writeSetting id value).2 := by
  unfold State.writeSetting
  split
  · exact hs
  · split
    · exact hs
    · rename_i ht
      split
      · exact hs
      · exact h.written hs ht

/-! ### Every command -/

/-- Every command keeps a property of the Floor and the Session that its few special operations keep. -/
theorem SessionStable.exec (h : SessionStable P) (s : State) (hs : P s) (i : Instr) :
    ∃ t, exec i s = .next t ∧ P t := by
  have hframe := h.frameStable
  have hkeep := fun {t : State} (ht : s.Routine t) => h.routine hs ht
  have hwrite := fun (p : Port) (f : Frame) (n : Nat) (act : State → List Byte → Result × State)
    (hact : ∀ t bs, P t → P (act t bs).2) => hframe.writeFrame s p f n hact hs
  have hroutine := fun (p : Port) (f : Frame) (n : Nat) (act : State → List Byte → Result × State)
    (hact : ∀ t bs, t.Routine (act t bs).2) => hwrite p f n act fun t bs ht => h.routine ht (hact t bs)
  have hread := fun (p : Port) (f : Frame) (n : Nat) refusal data => hframe.readFrame s p f n refusal data hs
  have htransfer := fun (p : Port) (f : Frame) refusal fixed =>
    hframe.transferFrame s p f refusal fixed (fun t _ ht => h.routine ht (.setReader t p _)) hs
  have hbare := fun (p : Port) (w : LaneWidth) (edges : Nat) (reset : AtReset) (r : Result) =>
    hframe.takeFrame s p w edges reset (fun t ht => hframe.answer t p w edges r ht) hs
  have hdue := fun (due : State → Bool) (act : State → State) (hact : ∀ u, P u → due u = true → P (act u)) =>
    h.atBoundary s due hact hs
  have hcloses : ∀ (due : State → Bool), ∀ u : State, P u → (u.closeDue && due u) = true → P u.closeNow :=
    fun _ u hu hd => h.closeNow u hu (Bool.and_eq_true_iff.1 hd).1
  cases i with
  | powerOn => exact ⟨_, rfl, h.routine (h.powered s.image) (.same rfl)⟩
  | settingsLoadComplete => exact ⟨_, rfl, hkeep (.ite (.completeLoad s) (.refl s))⟩
  | powerLoss => exact ⟨_, rfl, h.routine (h.powered s.image) (.same rfl)⟩
  | resetAssert => exact ⟨_, rfl, iteInduction (fun _ => hs) fun _ => h.assertReset s hs⟩
  | resetRelease => exact ⟨_, rfl, hkeep (.ite (.same rfl) (.refl s))⟩
  | samplePeriod edge levels => exact h.execSamplePeriod s edge levels hs
  | linkFrame n x => exact ⟨_, rfl, hkeep (.ite (.receiveLink s n x) (.refl s))⟩
  | linkLock n x => exact ⟨_, rfl, hkeep (.receiveTransition s n x _ _)⟩
  | linkSeekTimeout n x => exact ⟨_, rfl, hkeep (.receiveTransition s n x _ _)⟩
  | linkRelock n x => exact ⟨_, rfl, hkeep (.receiveTransition s n x _ _)⟩
  | linkDown n x => exact ⟨_, rfl, hkeep (.receiveTransition s n x _ _)⟩
  | houseClockLoss =>
    exact ⟨_, rfl, hkeep (.ite ((State.Routine.examineHouse s).trans (.loseHouse _)) (.refl s))⟩
  | houseClockReturn =>
    exact ⟨_, rfl, iteInduction (fun _ => hkeep ((State.Routine.examineHouse s).trans (.houseReturns _)))
      fun _ => hdue _ _ fun u hu _ => h.routine hu (.takeReturn u)⟩
  | benchLineAccept l => exact ⟨_, rfl, hkeep (.ite (.acceptLine s l) (.refl s))⟩
  | blockBoundary k => exact ⟨_, rfl, iteInduction (fun _ => h.reachTurned s k hs) fun _ => hs⟩
  | storeGapBlock =>
    exact ⟨_, rfl, iteInduction (fun _ => h.routine (h.finishBoundary s hs) (.drainGap _)) fun _ => hs⟩
  | pendingTargetTake => exact ⟨_, rfl, hdue _ _ h.takeTarget⟩
  | sessionClose => exact ⟨_, rfl, hdue _ _ (hcloses fun u => u.proc.closePending)⟩
  | sessionLengthLimit => exact ⟨_, rfl, hdue _ _ (hcloses fun u => decide (u.proc.periods ≥ sessionLimit))⟩
  | planActivate => exact ⟨_, rfl, hdue _ _ fun u hu _ => h.takeArmed u hu⟩
  | pendingGainApply order => exact ⟨_, rfl, hdue _ _ fun u hu _ => h.routine hu (.takeGains u order)⟩
  | pendingSettingApply => exact ⟨_, rfl, iteInduction (fun _ => h.beginBoundary s hs) fun _ => hs⟩
  | clockSourceApply => exact ⟨_, rfl, hdue _ _ fun u hu _ => h.routine hu (.takeSource u)⟩
  | marksLostStore =>
    exact ⟨_, rfl, iteInduction (fun _ => h.routine (h.finishBoundary s hs) (.drainLost _)) fun _ => hs⟩
  | storeCompletion => exact ⟨_, rfl, hkeep (.completeStore s)⟩
  | zeroByteFrame => exact ⟨_, rfl, hs⟩
  | frameDuringLoad p f => exact ⟨_, rfl, iteInduction (fun _ => hs) fun _ => hbare p _ f.edges f.reset .busy⟩
  | shortFrame p f => exact ⟨_, rfl, iteInduction (fun _ => hbare p .one f.edges f.reset .badFrame) fun _ => hs⟩
  | unknownCommand p code f =>
    exact ⟨_, rfl, iteInduction
      (fun _ => hframe.takeCommand s p f (fun t ht => h.routine ht (.same rfl)) hs) fun _ => hs⟩
  | status p f => exact ⟨_, rfl, hread p f _ _ _⟩
  | readEvents p f => exact ⟨_, rfl, hread p f _ _ _⟩
  | readHolds p f => exact ⟨_, rfl, hread p f _ _ _⟩
  | readPlan p f => exact ⟨_, rfl, hread p f _ _ _⟩
  | readTracks p f => exact ⟨_, rfl, hread p f _ _ _⟩
  | readLinks p f => exact ⟨_, rfl, hread p f _ _ _⟩
  | readSetting p f => exact ⟨_, rfl, hread p f _ _ _⟩
  | readBlock p f => exact ⟨_, rfl, htransfer p f _ _⟩
  | readMarks p f => exact ⟨_, rfl, htransfer p f _ _⟩
  | readBlockEnd p edges => exact ⟨_, rfl, hframe.riseOf s p true edges hs⟩
  | readMarksEnd p edges => exact ⟨_, rfl, hframe.riseOf s p false edges hs⟩
  | ackEvents p f => exact ⟨_, rfl, hroutine p f _ _ fun _ _ => .same rfl⟩
  | setMask p f => exact ⟨_, rfl, hroutine p f _ _ fun _ _ => .same rfl⟩
  | portReset p f => exact ⟨_, rfl, hroutine p f _ _ fun t _ => .portReset t p⟩
  | attach p f => exact ⟨_, rfl, hroutine p f _ _ fun t _ => .attach t p _⟩
  | detach p f => exact ⟨_, rfl, hroutine p f _ _ fun t _ => .detach t p⟩
  | release p f => exact ⟨_, rfl, hroutine p f _ _ fun t _ => .release t p _⟩
  | seek p f => exact ⟨_, rfl, hroutine p f _ _ fun t _ => .seek t p _⟩
  | setAvailLevel p f => exact ⟨_, rfl, hroutine p f _ _ fun t _ => .readerEvaluated t p _⟩
  | setLagLevel p f => exact ⟨_, rfl, hroutine p f _ _ fun t _ => .readerEvaluated t p _⟩
  | placeHold p f => exact ⟨_, rfl, hroutine p f _ _ fun t _ => .placeHold t p _ _⟩
  | dropHold p f => exact ⟨_, rfl, hroutine p f _ _ fun t _ => .dropHold t p _⟩
  | addNote p f => exact ⟨_, rfl, hroutine p f _ _ fun t _ => .addNote t p _ _ _ _⟩
  | openSession p f => exact ⟨_, rfl, hwrite p f _ _ fun t _ ht => h.openSession t p _ ht⟩
  | closeSession p f => exact ⟨_, rfl, hroutine p f _ _ fun t _ => .requestClose t p⟩
  | setState p f => exact ⟨_, rfl, hroutine p f _ _ fun t _ => .setState t p _⟩
  | planClear p f => exact ⟨_, rfl, hroutine p f _ _ fun _ _ => .same rfl⟩
  | planSetGroup p f => exact ⟨_, rfl, hroutine p f _ _ fun t _ => .planSetGroup t p _ _ _ _⟩
  | planSetFormat p f => exact ⟨_, rfl, hroutine p f _ _ fun t _ => .planSetFormat t p _ _⟩
  | activatePlan p f => exact ⟨_, rfl, hwrite p f _ _ fun t _ ht => h.activatePlan t _ ht⟩
  | setGain p f => exact ⟨_, rfl, hroutine p f _ _ fun t _ => .setGain t _ _⟩
  | writeSetting p f => exact ⟨_, rfl, hwrite p f _ _ fun t _ ht => h.writeSetting t _ _ ht⟩
  | enableStore p f => exact ⟨_, rfl, hroutine p f _ _ fun _ _ => .same rfl⟩
  | disableStore p f => exact ⟨_, rfl, hroutine p f _ _ fun t _ => .disableStore t p⟩
  | storeSettings p f => exact ⟨_, rfl, hroutine p f _ _ fun t _ => .storeSettings t p⟩

/-- The front command of the queue keeps the property, and an empty queue idles. -/
theorem SessionStable.step (h : SessionStable P) {s t : State} (hs : P s) (hstep : step s = .next t) : P t := by
  unfold Machine.step at hstep
  split at hstep
  · cases hstep
    exact hs
  · rename_i i rest _
    obtain ⟨u, hu, hkept⟩ := h.exec { s with pending := rest } (h.routine hs (.same rfl)) i
    rw [hu] at hstep
    cases hstep
    exact hkept

end Sys2Proof.Machine
end

section
/-! The Floor Holder stays ACTIVE or HANGING, and the Proceedings Controller consistent (R69, R78, R80, R84, R91). -/

namespace Sys2Proof.Machine

/-! ### What a boundary decides -/

/-- The state once the finished Block is dealt with, up to the FLOOR Mark: the Floor as it was judged, no Block in
progress, and the state after the boundary fixed (R64, R73, R90). -/
theorem State.turn_decided (s : State) (floorAfter : Nat) : ∃ u : State, u.Routine (s.turn floorAfter) ∧
    u.floor = s.judged.floor ∧ u.activity = s.judged.activity ∧ u.proc = s.fixNext.proc ∧
    u.stage = s.fixNext.stage ∧ u.inProgress = none ∧ u.inPeriod = s.inPeriod := by
  cases hb : s.inProgress with
  | none =>
    have hjudged := s.judged_eq
    have hfix : s.judged.fixNext = _ := State.fixNext_congr (s := s) (by rw [hjudged])
    refine ⟨s.judged.fixNext, ?_, ?_⟩
    · rw [s.turn_none floorAfter hb]
      exact .askFloor _ _ _ _
    · rw [hfix, hjudged]
      exact ⟨rfl, rfl, rfl, rfl, hb, rfl⟩
  | some b =>
    obtain ⟨r, e, heq⟩ := s.beforeFloorMark_eq b
    refine ⟨s.beforeFloorMark b, ?_, ?_⟩
    · rw [s.turn_eq_askFloor floorAfter hb]
      exact .askFloor _ _ _ _
    · rw [heq]
      exact ⟨rfl, rfl, rfl, rfl, rfl, rfl⟩

/-- The pending target is taken into the state after the boundary, but for its Mark (R90). -/
theorem State.takeTarget_routine (s : State) : State.Routine
    { s with proc := { s.proc with state := s.stateForMarks, target := none } } s.takeTarget := by
  unfold State.takeTarget
  dsimp only
  split
  · rename_i hsame
    rw [hsame]
    exact .same rfl
  · exact (State.Routine.boundaryMark (s.setProc { s.proc with state := s.stateForMarks, target := none }) _).trans
      (.raiseBoth _ .state)

/-! ### The Floor -/

/-- A Floor goes with the Activity States: its holder is ACTIVE or HANGING, and without a challenger no challenge is
counted (R69). -/
def State.floorFits (s : State) (f : Floor) : Prop :=
  (∀ t, f.holder = some t → (s.activity[t]).state = .active ∨ (s.activity[t]).state = .hanging) ∧
    (f.challenger = none → f.count = 0)

theorem State.floorWf_iff (s : State) : s.floorWf ↔ s.floorFits s.floor := Iff.rfl

section
variable {s t : State}

theorem State.floorWf.routine (h : s.floorWf) (hr : s.Routine t) : t.floorWf := by
  obtain ⟨hholder, hcount⟩ := h
  unfold State.floorWf
  rw [hr.floor]
  refine ⟨fun i hi => ?_, hcount⟩
  rw [hr.activity]
  exact hholder i hi

theorem State.floorWf.same (h : s.floorWf) (hf : t.floor = s.floor) (ha : t.activity = s.activity) :
    t.floorWf := by
  unfold State.floorWf
  rw [hf, ha]
  exact h

theorem State.floorWf_free (h : s.floor = startFloor) : s.floorWf := by
  unfold State.floorWf
  rw [h]
  exact ⟨nofun, fun _ => rfl⟩

/-- A Track that was ACTIVE or HANGING is so after a Block, or QUIET (R67, R68). -/
theorem TrackActivity.update_held (x : TrackActivity) (c : TrackSettings) (peak : Nat)
    (hx : x.state = .active ∨ x.state = .hanging) :
    (x.update c peak).state = .active ∨ (x.update c peak).state = .hanging ∨
      (x.update c peak).state = .quiet := by
  by_cases hl : c.threshold ≤ peak
  · rw [x.update_held_loud hx hl]
    exact .inl rfl
  · rw [x.update_held_soft hx hl]
    split
    · exact .inr (.inr rfl)
    · exact .inr (.inl rfl)

/-- A holder that is not QUIET keeps the Floor, so what is left of the Floor goes with the Activity States (R70). -/
theorem State.floorFreed_fits (hcount : s.floor.challenger = none → s.floor.count = 0)
    (hheld : ∀ i, s.floor.holder = some i → (s.activity[i]).state = .active ∨ (s.activity[i]).state = .hanging ∨
      (s.activity[i]).state = .quiet) : s.floorFits s.floorFreed := by
  cases hh : s.floor.holder with
  | none =>
    rw [s.floorFreed_empty hh]
    exact ⟨fun i hi => (nomatch hh.symm.trans hi), hcount⟩
  | some i =>
    by_cases hl : s.loses i
    · rw [s.floorFreed_lost hh hl]
      exact ⟨nofun, fun _ => rfl⟩
    · rw [s.floorFreed_kept hh hl]
      refine ⟨fun j hj => ?_, hcount⟩
      obtain rfl : i = j := Option.some.inj (hh.symm.trans hj)
      obtain hactive | hhanging | hquiet := hheld i hh
      · exact .inl hactive
      · exact .inr hhanging
      · exact absurd (.inl hquiet) hl

/-- Whoever a decision gives the Floor to is ACTIVE, or held it before (R71, R72). -/
theorem State.floorDecision_fits (peaks : List Nat) (h : s.floorFits s.floorFreed) :
    s.floorFits (s.floorDecision peaks) := by
  obtain ⟨hholder, hcount⟩ := h
  have hkept : ∀ i, s.floorFreed.holder = some i → ∀ c n, (c = none → n = 0) →
      s.floorFits ⟨some i, c, n⟩ := fun i hi c n hn => ⟨fun j hj => Option.some.inj hj ▸ hholder i hi, hn⟩
  have hgiven : ∀ {holder i}, s.leader peaks holder = some i → s.floorFits ⟨some i, none, 0⟩ :=
    fun hi => ⟨fun j hj => Option.some.inj hj ▸ .inl (s.leader_active hi), fun _ => rfl⟩
  cases hf : s.floorFreed.holder with
  | none =>
    cases hc : s.leader peaks none with
    | none =>
      rw [s.floorDecision_unclaimed hf hc]
      exact ⟨hholder, hcount⟩
    | some c =>
      rw [s.floorDecision_taken hf hc]
      exact hgiven hc
  | some i =>
    cases hc : s.leader peaks (some i) with
    | none =>
      rw [s.floorDecision_unchallenged hf hc]
      exact hkept i hf none 0 fun _ => rfl
    | some c =>
      have hchallenged : s.floorFits (s.challenged s.floorFreed i c) :=
        iteInduction (motive := s.floorFits) (fun _ => hgiven hc) fun _ => hkept i hf (some c) _ nofun
      rw [s.floorDecision_led hf hc]
      exact iteInduction (fun _ => hkept i hf none 0 fun _ => rfl) fun _ => hchallenged

theorem State.floorWf.judged (h : s.floorWf) : s.judged.floorWf := by
  obtain ⟨hholder, hcount⟩ := h
  have hheld : ∀ i, s.floor.holder = some i → ((s.updateActivity s.peaks).activity[i]).state = .active ∨
      ((s.updateActivity s.peaks).activity[i]).state = .hanging ∨
      ((s.updateActivity s.peaks).activity[i]).state = .quiet := fun i hi => by
    rw [s.updateActivity_track]
    split
    · exact (hholder i hi).imp_right .inl
    · exact TrackActivity.update_held _ _ _ (hholder i hi)
  have hfits := State.floorDecision_fits s.peaks
    (State.floorFreed_fits (s := s.updateActivity s.peaks) hcount hheld)
  rw [State.floorWf_iff, s.judged_eq]
  exact hfits

end

theorem sessionStable_floorWf : SessionStable State.floorWf where
  routine := State.floorWf.routine
  powered _ := State.floorWf_free rfl
  freed _ _ _ := State.floorWf_free rfl
  cleared _ _ := State.floorWf_free rfl
  startPeriod s edge levels h _ := by
    obtain ⟨b, t, x, heq, _⟩ := s.startPeriod_keeps edge levels
    rw [heq]
    exact h.same rfl rfl
  begun _ h _ := h.same rfl rfl
  turn s floorAfter h _ := by
    obtain ⟨u, hroutine, hfloor, hactivity, _⟩ := s.turn_decided floorAfter
    exact (h.judged.same hfloor hactivity).routine hroutine
  closeNow s h _ := by
    obtain ⟨r, e, m, heq⟩ := s.closeNow_keeps
    rw [heq]
    exact h.same rfl rfl
  takeTarget s h _ := by
    have hstate : State.floorWf { s with proc := { s.proc with state := s.stateForMarks, target := none } } :=
      h.same rfl rfl
    exact hstate.routine s.takeTarget_routine
  ended _ h := h.same rfl rfl

/-! ### The Proceedings Controller -/

theorem State.turned_iff (s : State) : s.turned = true ↔ ∃ next wait, s.stage = .turned next wait := by
  unfold State.turned
  cases s.stage <;> simp

theorem State.stateForMarks_turned (s : State) {next : ProceedingsState}
    {wait : Option (Nat × Option (Fin 32) × Bool)} (h : s.stage = .turned next wait) : s.stateForMarks = next := by
  unfold State.stateForMarks
  rw [h]

theorem State.closesHere_congr {s t : State} (h : t.proc = s.proc) : t.closesHere = s.closesHere := by
  unfold State.closesHere
  rw [h]

/-- CLOSED comes after the boundary of an open Session only by a closing there (R90 to R92). -/
theorem State.closesHere_of_nextState (s : State) (hn : s.nextState = .closed) (ho : s.proc.state ≠ .closed) :
    s.closesHere = true := by
  by_contra hc
  unfold State.nextState at hn
  rw [if_neg hc] at hn
  split at hn
  · exact ho hn
  · split at hn <;> cases hn
  · cases hn
  · cases hn
  · rename_i htarget
    refine hc ?_
    simp [State.closesHere, Proceedings.closePending, htarget]

theorem State.nextState_closed (s : State) (hc : s.proc.state = .closed) (ht : s.proc.target = none) :
    s.nextState = .closed := by
  simp [State.nextState, hc, ht]

/-- The state after the boundary, and what the Block Period that begins there takes from it (R90 to R93). -/
theorem State.fixNext_session (s : State) : ∃ next, s.fixNext.stage = .turned next none ∧
    s.fixNext.proc.restricted = decide (next = .sidebar) ∧ s.fixNext.proc.target = s.proc.target ∧
    (next = .closed → s.proc.state ≠ .closed → s.fixNext.closesHere = true) ∧
    (s.proc.state = .closed → s.proc.target = none → next = .closed) := by
  let u := s.setProc { s.proc with periods := s.proc.periods + 1 }
  exact ⟨u.nextState, rfl, rfl, rfl, u.closesHere_of_nextState, u.nextState_closed⟩

section
variable {s t : State}

theorem State.procWf.routine (h : s.procWf) (hr : s.Routine t) : t.procWf := by
  obtain ⟨hclosed, hopen, hmax, hperiod, hturned, hnext⟩ := h
  refine ⟨fun hc => ?_, fun ho => ?_, ?_, fun hs => ?_, fun hs => ?_, fun next wait hs hn ho => ?_⟩
  · have hc' := hr.proc.closed.1 hc
    obtain ⟨htarget, hrestricted, hnone⟩ := hclosed hc'
    obtain ⟨htarget', hrestricted'⟩ := hr.proc.quiet hc'
    exact ⟨htarget'.trans htarget, hrestricted'.trans hrestricted, hr.inProgress hnone⟩
  · rw [hr.proc.session]
    exact hopen (hr.sessionOpen ▸ ho)
  · rw [hr.proc.session]
    exact hmax
  · have hin := hperiod (mt hr.stage_idle.2 hs)
    exact Bool.eq_false_iff.2 fun ht => Bool.eq_false_iff.1 hin (hr.inPeriod ht)
  · obtain ⟨next, wait, hstage⟩ := t.turned_iff.1 hs
    obtain ⟨wait', hstage'⟩ := hr.stage_turned hstage
    exact hr.inProgress (hturned (s.turned_of_stage hstage'))
  · obtain ⟨wait', hstage'⟩ := hr.stage_turned hs
    exact hr.closesHere (hnext next wait' hstage' hn (hr.sessionOpen ▸ ho))

/-- With no boundary open, only CLOSED and the session number are left to look at. -/
theorem State.procWf_idle (hs : s.stage = .idle)
    (hclosed : s.proc.state = .closed → s.proc.target = none ∧ s.proc.restricted = false ∧ s.inProgress = none)
    (hopen : s.sessionOpen → 1 ≤ s.proc.session) (hmax : s.proc.session ≤ 65535) : s.procWf := by
  refine ⟨hclosed, hopen, hmax, fun h => absurd hs h, fun ht => ?_, fun _ _ ht => ?_⟩
  · simp [State.turned, hs] at ht
  · rw [hs] at ht
    cases ht

theorem State.procWf_cleared (s : State) (verify : Bool) : (s.cleared verify).procWf := by
  have hnumber : 1 ≤ nextSession s.proc.session ∧ nextSession s.proc.session ≤ 65535 := by
    unfold nextSession
    split <;> omega
  exact State.procWf_idle rfl nofun (fun _ => hnumber.1) hnumber.2

theorem State.procWf.startPeriod (h : s.procWf) (edge : Bool) (levels : BenchLevels) (hs : s.stage = .idle) :
    (s.startPeriod edge levels).procWf := by
  obtain ⟨hclosed, hopen, hmax, _⟩ := h
  obtain ⟨b, t, x, heq, _, hb⟩ := s.startPeriod_keeps edge levels
  rw [heq]
  refine State.procWf_idle hs (fun hc => ?_) hopen hmax
  obtain ⟨htarget, hrestricted, hnone⟩ := hclosed hc
  exact ⟨htarget, hrestricted, (hb (.inl hc)).1.trans hnone⟩

theorem State.procWf.turn (h : s.procWf) (floorAfter : Nat) (hs : s.stage = .begun) :
    (s.turn floorAfter).procWf := by
  obtain ⟨hclosed, hopen, hmax, hperiod, _⟩ := h
  obtain ⟨u, hroutine, _, _, hproc, hstage, hnone, hin⟩ := s.turn_decided floorAfter
  obtain ⟨_, _, hsession, hstate⟩ := s.fixNext_counts
  obtain ⟨next, hturned, hrestricted, htarget, hcloses, hstays⟩ := s.fixNext_session
  have hwf : u.procWf := by
    unfold State.procWf
    rw [State.sessionOpen_iff, State.closesHere_congr hproc, hproc, hstage, hturned, hnone, hin, hstate, hsession,
      hrestricted, htarget]
    rw [State.sessionOpen_iff] at hopen
    refine ⟨fun hc => ?_, hopen, hmax, fun _ => hperiod (by rw [hs]; nofun), fun _ => rfl, fun n _ hn hcl => ?_⟩
    · obtain ⟨hnotarget, _, _⟩ := hclosed hc
      refine ⟨hnotarget, ?_, rfl⟩
      rw [hstays hc hnotarget]
      rfl
    · obtain ⟨rfl, _⟩ := BoundaryStage.turned.inj hn
      exact hcloses hcl
  exact hwf.routine hroutine

theorem State.procWf.closeNow (h : s.procWf) (hd : s.closeDue = true) : s.closeNow.procWf := by
  obtain ⟨_, _, hmax, hperiod, hturned, _⟩ := h
  obtain ⟨hopen, _⟩ := Bool.and_eq_true_iff.1 hd
  obtain ⟨hturn, _⟩ := Bool.and_eq_true_iff.1 hopen
  obtain ⟨r, e, m, heq⟩ := s.closeNow_keeps
  rw [heq]
  exact ⟨fun _ => ⟨rfl, rfl, hturned hturn⟩, nofun, hmax, hperiod, hturned, nofun⟩

/-- A target is taken only where the Session goes on: a closing that is due comes first (R90, R91). -/
theorem State.procWf.takeTarget (h : s.procWf) (hd : s.targetDue = true) : s.takeTarget.procWf := by
  obtain ⟨hclosed, hopen, hmax, hperiod, hturned, hnext⟩ := h
  obtain ⟨hpast, hsome⟩ := Bool.and_eq_true_iff.1 hd
  obtain ⟨hturn, hnoclose⟩ := Bool.and_eq_true_iff.1 hpast
  obtain ⟨next, wait, hstage⟩ := s.turned_iff.1 hturn
  have hstill : s.proc.state ≠ .closed := fun hc => by
    obtain ⟨hnone, _⟩ := hclosed hc
    rw [hnone] at hsome
    cases hsome
  have hgoes : s.stateForMarks ≠ .closed := fun hc => by
    have hn : next = .closed := (s.stateForMarks_turned hstage).symm.trans hc
    have hclose := (s.closeDue_iff hturn).2 ⟨hstill, hnext next wait hstage hn (s.sessionOpen_iff.2 hstill)⟩
    rw [hclose] at hnoclose
    cases hnoclose
  have hwf : State.procWf { s with proc := { s.proc with state := s.stateForMarks, target := none } } := by
    refine ⟨fun hc => absurd hc hgoes, fun _ => hopen (s.sessionOpen_iff.2 hstill), hmax, hperiod, hturned,
      fun n w hn hcl _ => absurd ?_ hgoes⟩
    exact (s.stateForMarks_turned hn).trans hcl
  exact hwf.routine s.takeTarget_routine

end

theorem sessionStable_procWf : SessionStable State.procWf where
  routine := State.procWf.routine
  powered _ := State.procWf_idle rfl (fun _ => ⟨rfl, rfl, rfl⟩) nofun (Nat.zero_le _)
  freed _ _ h := h
  cleared := State.procWf_cleared
  startPeriod _ edge levels h hs := h.startPeriod edge levels hs
  begun s h hin := by
    obtain ⟨hclosed, hopen, hmax, _⟩ := h
    exact ⟨hclosed, hopen, hmax, fun _ => hin, nofun, nofun⟩
  turn _ floorAfter h hs := h.turn floorAfter hs
  closeNow _ h hd := h.closeNow hd
  takeTarget _ h hd := h.takeTarget hd
  ended s h := by
    obtain ⟨hclosed, hopen, hmax, _⟩ := h
    exact State.procWf_idle rfl hclosed hopen hmax

/-- Settles O60: each invariant is kept by what is routine and by the few operations of `SessionStable`, and so by
every step (`SessionStable.step`). -/
theorem floorAndProceedingsKept : Obligations.FloorAndProceedingsKept := by
  unfold Obligations.FloorAndProceedingsKept
  exact ⟨fun _ _ => sessionStable_floorWf.step, fun _ _ => sessionStable_procWf.step⟩

end Sys2Proof.Machine
end

section
/-! Requests to the Proceedings Controller by a port or by a Bench Line: SET_STATE, CLOSE_SESSION, and the debounce
and acceptance of the Bench Lines (R84 to R89, R95 to R98). -/

namespace Sys2Proof.Machine

/-! ### A request, by Table 5.3 -/

/-- The pending target that a request for a state asks for (R84). -/
def ProceedingsState.asTarget : ProceedingsState → Target
  | .closed => .close
  | .offRecord => .offRecord
  | .onRecord => .onRecord
  | .sidebar => .sidebar

/-- The general rules of R84 as a row of Table 5.3: the result, and the pending target after it. -/
def generalRow (pending : Option Target) (current : Bool) (target : Target) : Result × Option Target :=
  if current then if pending = none then (.already, none) else (.ok, none)
  else if pending = some target then (.already, pending) else (.ok, some target)

/-- A request whose result is not OK leaves the pending target (R84). -/
theorem State.setTarget_unchanged (s : State) {row : Result × Option Target} (who : Party) (h : row.1 ≠ .ok) :
    s.setTarget (targetAfter s.proc.target row who) = s := by
  rw [targetAfter, if_neg h]
  rfl

theorem State.general_eq (s : State) (current : Bool) (target : Target) (who : Party) :
    s.general current target who = ((generalRow (s.proc.target.map Prod.fst) current target).1,
      s.setTarget (targetAfter s.proc.target (generalRow (s.proc.target.map Prod.fst) current target) who)) := by
  unfold State.general generalRow
  cases current with
  | true =>
    by_cases hnone : s.proc.target = none
    · rw [if_pos rfl, if_pos hnone, if_pos rfl, if_pos (Option.map_eq_none_iff.2 hnone),
        s.setTarget_unchanged who]
      nofun
    · simp [hnone, targetAfter]
  | false =>
    by_cases hsame : s.proc.target.map Prod.fst = some target
    · rw [if_neg nofun, if_pos hsame, if_neg nofun, if_pos hsame, s.setTarget_unchanged who]
      nofun
    · simp [hsame, targetAfter]

theorem State.request_closing (s : State) (wanted : ProceedingsState) (who : Party)
    (h : s.proc.target.map Prod.fst = some .close) : s.request wanted who = (.state, s) := by
  unfold State.request
  exact if_pos (s.proc.closePending_iff.2 h)

theorem State.request_closed (s : State) {wanted : ProceedingsState} (who : Party) (hw : wanted ≠ .closed)
    (h : s.proc.state = .closed) : s.request wanted who = (.state, s) := by
  by_cases hc : s.proc.target.map Prod.fst = some .close
  · exact s.request_closing wanted who hc
  · rw [← Proceedings.closePending_iff] at hc
    unfold State.request
    rw [if_neg hc]
    cases wanted with
    | closed => exact absurd rfl hw
    | offRecord => simp [State.requestOff, h]
    | onRecord => simp [State.requestOn, h]
    | sidebar => simp [State.requestSidebar, h]

/-- In an open Session without CLOSE pending a request follows the general rules of R84, but for a sidebar from
ON_RECORD (R87) and for ON_RECORD from a SIDEBAR that PRIVACY holds (R85). -/
theorem State.request_general (s : State) {wanted : ProceedingsState} (who : Party) (hw : wanted ≠ .closed)
    (hopen : s.proc.state ≠ .closed) (hclose : s.proc.target.map Prod.fst ≠ some .close)
    (henter : ¬(s.proc.state = .onRecord ∧ wanted = .sidebar))
    (hheld : ¬(s.proc.state = .sidebar ∧ wanted = .onRecord ∧ s.proc.lines.privacy.level = true)) :
    s.request wanted who = s.general (decide (s.proc.state = wanted)) wanted.asTarget who := by
  rw [Ne, ← Proceedings.closePending_iff] at hclose
  unfold State.request
  rw [if_neg hclose]
  cases wanted with
  | closed => exact absurd rfl hw
  | offRecord =>
    dsimp only
    unfold State.requestOff
    cases hs : s.proc.state with
    | closed => exact absurd hs hopen
    | offRecord | onRecord | sidebar => rfl
  | onRecord =>
    dsimp only
    unfold State.requestOn
    cases hs : s.proc.state with
    | closed => exact absurd hs hopen
    | offRecord | onRecord => rfl
    | sidebar => exact if_neg fun hp => hheld ⟨hs, rfl, hp⟩
  | sidebar =>
    dsimp only
    unfold State.requestSidebar
    cases hs : s.proc.state with
    | closed => exact absurd hs hopen
    | offRecord | sidebar => rfl
    | onRecord => exact absurd ⟨hs, rfl⟩ henter

/-- PRIVACY holds a SIDEBAR against a request for ON_RECORD (R85). -/
theorem State.request_benchHeld (s : State) (who : Party) (hs : s.proc.state = .sidebar)
    (hp : s.proc.lines.privacy.level = true) (hclose : s.proc.target.map Prod.fst ≠ some .close) :
    s.request .onRecord who = (.benchHeld, s) := by
  rw [Ne, ← Proceedings.closePending_iff] at hclose
  simp [State.request, hclose, State.requestOn, hs, hp]

/-- The rows of Table 5.3 are those of the general rules, and BENCH_HELD (R84 to R87). -/
theorem requestTable_row {now wanted : ProceedingsState} {pending : Option Target} {privacy : Bool}
    {row : Result × Option Target} (h : requestTable now pending privacy wanted = some row) :
    wanted ≠ .closed ∧ now ≠ .closed ∧ pending ≠ some .close ∧ ¬(now = .onRecord ∧ wanted = .sidebar) ∧
      row = if now = .sidebar ∧ wanted = .onRecord ∧ privacy = true then (.benchHeld, pending)
        else generalRow pending (decide (now = wanted)) wanted.asTarget := by
  unfold requestTable at h
  cases privacy
  all_goals
    split at h
    case h_23 => cases h
    all_goals
      obtain rfl := Option.some.inj h
      simp [generalRow, ProceedingsState.asTarget]

/-- A request in the scope of Table 5.3 is answered by its row (R84 to R87). -/
theorem State.request_of_table (s : State) {wanted : ProceedingsState} (who : Party)
    {row : Result × Option Target}
    (h : requestTable s.proc.state (s.proc.target.map Prod.fst) s.proc.lines.privacy.level wanted = some row) :
    s.request wanted who = (row.1, s.setTarget (targetAfter s.proc.target row who)) := by
  obtain ⟨hw, hopen, hclose, henter, hrow⟩ := requestTable_row h
  split at hrow
  · rename_i hheld
    obtain ⟨hs, rfl, hp⟩ := hheld
    subst hrow
    rw [s.request_benchHeld who hs hp hclose, s.setTarget_unchanged who]
    nofun
  · rename_i hheld
    subst hrow
    rw [s.request_general who hw hopen hclose henter hheld, s.general_eq]

/-- A sidebar from ON_RECORD is entered at once (R87, R97): a STATE Mark, and STATE on both ports. -/
theorem State.enterSidebar_eq (s : State) (who : Party) (target : Option (Target × Party)) :
    s.enterSidebar who target = State.raiseBoth (State.insertMark
      { s with proc := { s.proc with state := .sidebar, target := target, restricted := true } }
      ⟨.state, who, s.proc.clock, 3, none, false, false⟩) .state := by
  unfold State.enterSidebar
  dsimp only [State.setProc]
  rw [State.requestMark_open _ _ rfl]
  rfl

theorem State.request_sidebar_onRecord (s : State) (who : Party) (hs : s.proc.state = .onRecord)
    (hclose : s.proc.target.map Prod.fst ≠ some .close) :
    s.request .sidebar who = (.ok, s.enterSidebar who none) := by
  rw [Ne, ← Proceedings.closePending_iff] at hclose
  simp [State.request, hclose, State.requestSidebar, hs]

/-! ### SET_STATE and CLOSE_SESSION -/

theorem exec_closeSession (p : Port) (f : Frame) (s : State) :
    exec (.closeSession p f) s = .next (s.writeFrame p f 0 fun t _ => t.requestClose p) := rfl

theorem exec_setState (p : Port) (f : Frame) (s : State) :
    exec (.setState p f) s = .next (s.writeFrame p f 1 fun t bs => t.setState p (param bs 0)) := rfl

theorem State.requestClose_closed (s : State) (p : Port) (h : s.proc.state = .closed) :
    s.requestClose p = (.state, s) := by
  simp [State.requestClose, State.sessionOpen, h]

theorem State.requestClose_pending (s : State) (p : Port) (hopen : s.proc.state ≠ .closed)
    (h : s.proc.target.map Prod.fst = some .close) : s.requestClose p = (.already, s) := by
  simp [State.requestClose, s.sessionOpen_iff.2 hopen, s.proc.closePending_iff.2 h]

theorem State.requestClose_accepted (s : State) (p : Port) (hopen : s.proc.state ≠ .closed)
    (h : s.proc.target.map Prod.fst ≠ some .close) :
    s.requestClose p = (.ok, s.setTarget (some (.close, partyOf p))) := by
  rw [Ne, ← Proceedings.closePending_iff] at h
  simp [State.requestClose, s.sessionOpen_iff.2 hopen, h]

theorem State.setState_range (s : State) (p : Port) {code : Byte} (h : code.toNat = 0 ∨ code.toNat > 3) :
    s.setState p code = (.range, s) := by
  have hnone : requestOfCode code = none := by
    obtain hzero | habove := h
    · simp [requestOfCode, hzero]
    · obtain ⟨n, hn⟩ : ∃ n, code.toNat = n + 4 := ⟨code.toNat - 4, by omega⟩
      simp [requestOfCode, hn]
  simp [State.setState, hnone]

theorem State.setState_named (s : State) (p : Port) {code : Byte} {wanted : ProceedingsState}
    (h : requestOfCode code = some wanted) : s.setState p code = s.request wanted (partyOf p) := by
  simp [State.setState, h]

/-- Settles O24: CLOSE_SESSION by the three answers of `State.requestClose`, SET_STATE by `State.request_of_table`. -/
theorem stateRequests : Obligations.StateRequests := by
  unfold Obligations.StateRequests
  have hset : ∀ (p : Port) (f : Frame) (c : Byte) (s : State), s.takes p f → s.hears p f [c] →
      ∀ {r t}, (s.shifted p f).setState p c = (r, t) → exec (.setState p f) s = .next (t.setResult p r) :=
    fun p f c s htakes hhears r t h =>
      (exec_setState p f s).trans (congrArg _ (s.writeFrame_answers p f htakes hhears h))
  refine ⟨fun p f s htakes hbare => ?_, fun p f c s htakes hhears => ?_, fun p f s htakes hhears hs hclose => ?_⟩
  · have hanswer : ∀ {r t}, (s.shifted p f).requestClose p = (r, t) →
        exec (.closeSession p f) s = .next (t.setResult p r) := fun h => by
      rw [exec_closeSession, s.writeFrame_bare p f _ htakes hbare, h]
    refine ⟨fun hs => ?_, fun who hs ht => ?_, fun hs ht => ?_⟩
    · exact hanswer ((s.shifted p f).requestClose_closed p hs)
    · exact hanswer ((s.shifted p f).requestClose_pending p hs (congrArg (Option.map Prod.fst) ht))
    · exact hanswer ((s.shifted p f).requestClose_accepted p hs ht)
  · have hanswer := @hset p f c s htakes hhears
    refine ⟨fun hc => hanswer ((s.shifted p f).setState_range p hc), fun wanted hwanted => ?_⟩
    have hnamed : requestOfCode c = some wanted ∧ wanted ≠ .closed := by
      obtain ⟨rfl, rfl⟩ | ⟨rfl, rfl⟩ | ⟨rfl, rfl⟩ := hwanted <;> exact ⟨rfl, nofun⟩
    obtain ⟨hcode, hw⟩ := hnamed
    have hrequest := (s.shifted p f).setState_named p hcode
    refine ⟨fun hs => ?_, fun hclose => ?_, fun row hrow => ?_⟩
    · exact hanswer (hrequest.trans ((s.shifted p f).request_closed _ hw hs))
    · exact hanswer (hrequest.trans ((s.shifted p f).request_closing _ _ hclose))
    · exact hanswer (hrequest.trans ((s.shifted p f).request_of_table _ hrow))
  · rw [hset p f 3 s htakes hhears (((s.shifted p f).setState_named p rfl).trans
      ((s.shifted p f).request_sidebar_onRecord _ hs hclose)), State.enterSidebar_eq]
    rfl

/-! ### The Bench Lines -/

theorem exec_benchLineAccept (l : Line) (s : State) : exec (.benchLineAccept l) s =
    .next (if s.live && s.inPeriod && s.acceptDue l then s.acceptLine l else s) := rfl

theorem BenchLine.sample_same (x : BenchLine) {present : Bool} (clock : Nat) (closed : Bool)
    (h : present = x.level) : x.sample present clock closed = { x with count := 0 } := if_pos h

theorem BenchLine.sample_first (x : BenchLine) {present : Bool} (clock : Nat) (closed : Bool)
    (h : present ≠ x.level) (hn : x.count = 0) :
    x.sample present clock closed = { x with count := 1, firstEdge := clock, early := closed } :=
  (if_neg h).trans (if_pos hn)

theorem BenchLine.sample_later (x : BenchLine) {present : Bool} (clock : Nat) (closed : Bool)
    (h : present ≠ x.level) (hn : 0 < x.count) (hlt : x.count < 960) :
    x.sample present clock closed = { x with count := x.count + 1 } := by
  unfold BenchLine.sample countTo
  rw [if_neg h, if_neg hn.ne', if_pos hlt]

/-- A line with its change accepted (R95). -/
def BenchLine.turned (x : BenchLine) : BenchLine := { x with level := !x.level, count := 0 }

/-- The part with a line's change accepted, before what the change does (R95). -/
def State.lineTurned (s : State) (l : Line) : State :=
  { s with proc := { s.proc with lines := s.proc.lines.set l (s.proc.lines.get l).turned } }

theorem exec_benchLineAccept_due (l : Line) (s : State) (hl : s.live = true) (hin : s.inPeriod = true)
    (hdue : (s.proc.lines.get l).count = 960) : exec (.benchLineAccept l) s =
      .next ((s.lineTurned l).lineChanged l (!(s.proc.lines.get l).level) (s.proc.lines.get l)) := by
  rw [exec_benchLineAccept, if_pos (by simp [hl, hin, State.acceptDue, hdue])]
  rfl

theorem State.lineChanged_key (s : State) (level : Bool) (x : BenchLine) : s.lineChanged .key level x = s := by
  cases level <;> rfl

theorem State.lineChanged_fall (s : State) {l : Line} (x : BenchLine) (h : l ≠ .privacy) :
    s.lineChanged l false x = s := by
  cases l with
  | privacy => exact absurd rfl h
  | onRec | offRec | mark | key => rfl

/-- A rise of ON_REC or OFF_REC is a request of BENCH (R96). -/
theorem State.lineChanged_request (s : State) {l : Line} (x : BenchLine) (h : l = .onRec ∨ l = .offRec) :
    s.lineChanged l true x = (s.request (if l = .onRec then .onRecord else .offRecord) .bench).2 := by
  obtain rfl | rfl := h <;> rfl

theorem State.privacyRise_onRecord (s : State) (h : s.proc.state = .onRecord) : s.privacyRise =
    s.enterSidebar .bench (if s.proc.target.map Prod.fst = some .close then s.proc.target else none) := by
  simp only [State.privacyRise, h, Proceedings.closePending_iff]

theorem State.privacyRise_other (s : State) (h : s.proc.state ≠ .onRecord) : s.privacyRise = s := by
  unfold State.privacyRise
  split
  · rename_i hs
    exact absurd hs h
  all_goals rfl

theorem State.privacyFall_back (s : State) (h : s.proc.state = .sidebar) (ht : s.proc.target = none) :
    s.privacyFall = s.setTarget (some (.onRecord, .bench)) := by
  simp [State.privacyFall, h, ht]

theorem State.privacyFall_other (s : State) (h : s.proc.state ≠ .sidebar ∨ s.proc.target ≠ none) :
    s.privacyFall = s := by
  unfold State.privacyFall
  split
  · rename_i hs
    exact if_neg (h.resolve_left (not_not.2 hs))
  all_goals rfl

/-- Settles O41: the debounce by the branches of `BenchLine.sample`, the acceptance by `State.lineTurned` and what
`State.lineChanged` makes of the line and its new level. -/
theorem benchLines : Obligations.BenchLines := by
  unfold Obligations.BenchLines
  refine ⟨fun x present closed clock hlt => ⟨x.sample_same clock closed, x.sample_first clock closed,
    fun hne hpos => x.sample_later clock closed hne hpos hlt⟩, ?_⟩
  intro l s hpower hreset hin hdue x u rises wanted
  have haccept : exec (.benchLineAccept l) s = .next (u.lineChanged l (!x.level) x) :=
    exec_benchLineAccept_due l s (s.live_iff.2 ⟨hpower, hreset⟩) hin hdue
  have hrise : rises → exec (.benchLineAccept l) s = .next (u.lineChanged l true x) := fun h => by
    rw [haccept, show x.level = false from h]
    rfl
  have hfall : ¬rises → exec (.benchLineAccept l) s = .next (u.lineChanged l false x) := fun h => by
    rw [haccept, show x.level = true from Bool.eq_true_of_not_eq_false h]
    rfl
  have hwanted : wanted ≠ .closed := by
    unfold wanted
    split <;> nofun
  refine ⟨?_, fun hf hl => ?_, fun hr hl href => ?_, fun row hr hl hrow => ?_, ?_, ?_, ?_, ?_, ?_, ?_⟩
  · rintro rfl
    rw [haccept, State.lineChanged_key]
  · rw [hfall hf, u.lineChanged_fall x hl]
  · have hrefused : u.request wanted .bench = (.state, u) := by
      obtain hc | hc := href
      · exact u.request_closed .bench hwanted hc
      · exact u.request_closing wanted .bench hc
    rw [hrise hr, u.lineChanged_request x hl, hrefused]
  · have hprivacy : u.proc.lines.privacy = s.proc.lines.privacy := by obtain rfl | rfl := hl <;> rfl
    have hanswer := u.request_of_table .bench (row := row) (wanted := wanted) (by rw [hprivacy]; exact hrow)
    rw [hrise hr, u.lineChanged_request x hl, hanswer]
    rfl
  · rintro hr rfl hs
    rw [hrise hr, show u.lineChanged .privacy true x = u.privacyRise from rfl, u.privacyRise_onRecord hs,
      State.enterSidebar_eq]
  · rintro hr rfl hs
    rw [hrise hr, show u.lineChanged .privacy true x = u.privacyRise from rfl, u.privacyRise_other hs]
  · rintro hf rfl hs ht
    rw [hfall hf, show u.lineChanged .privacy false x = u.privacyFall from rfl, u.privacyFall_back hs ht]
    rfl
  · rintro hf rfl hs
    rw [hfall hf, show u.lineChanged .privacy false x = u.privacyFall from rfl, u.privacyFall_other hs]
  · rintro hr rfl hs
    rw [hrise hr]
    exact congrArg _ (u.requestMark_closed _ (by simp [State.sessionOpen, u, hs]))
  · rintro hr rfl hs
    rw [hrise hr]
    exact congrArg _ (u.requestMark_open _ (u.sessionOpen_iff.2 hs))

end Sys2Proof.Machine
end

section
/-! OPEN_SESSION: its tests and the Session that it opens (R80 to R83, R95). -/

namespace Sys2Proof.Machine

@[simp] theorem State.shifted_readers (s : State) (p : Port) (f : Frame) : (s.shifted p f).readers = s.readers := rfl

/-! ### The tests of OPEN_SESSION (R81, R82) -/

theorem exec_openSession (p : Port) (f : Frame) (s : State) :
    exec (.openSession p f) s = .next (s.writeFrame p f 1 fun t bs => t.openSession p (param bs 0)) := rfl

/-- An attached BINDING Reader has a Block or a Mark still to read (R81). -/
theorem State.readerUndrained_iff (s : State) (x : Reader) : s.readerUndrained x = true ↔
    x.state ≠ .detached ∧ x.retention = some .binding ∧
      (s.ring.next - x.read > 0 ∨ x.mark < s.marks.next) := by
  simp [State.readerUndrained, Reader.binds_iff, Reader.avail, and_assoc]

theorem State.openSession_range (s : State) (p : Port) {flag : Byte} (h : flag.toNat > 1) :
    s.openSession p flag = (.range, s) := if_pos h

theorem State.openSession_open (s : State) (p : Port) {flag : Byte} (hf : flag.toNat ≤ 1)
    (h : s.proc.state ≠ .closed) : s.openSession p flag = (.state, s) :=
  (if_neg hf.not_gt).trans (if_pos (s.sessionOpen_iff.2 h))

/-- In CLOSED the record of the last Session decides (R81, R82). -/
theorem State.openSession_closed (s : State) (p : Port) {flag : Byte} (hf : flag.toNat ≤ 1)
    (h : s.proc.state = .closed) : s.openSession p flag =
      if s.undrained then (.undrained, s) else (.ok, s.opened p (decide (flag.toNat = 1))) :=
  (if_neg hf.not_gt).trans (if_neg fun ho => s.sessionOpen_iff.1 ho h)

/-! ### The Session that it opens (R80, R82, R83) -/

/-- The one Mark of a Session just opened (R82). -/
def openingMark (p : Port) (session : Nat) : Mark :=
  ⟨0, .sessionOpen, partyOf p, 0, none, BitVec.ofNat 16 session, none, false, false⟩

/-- The part with a Session just opened: cleared but for its one Mark, with MARK and STATE set on both ports. -/
def State.inNewSession (s : State) (p : Port) (verify : Bool) : State :=
  { s.cleared verify with
    marks := ⟨[openingMark p (nextSession s.proc.session)], 1, 0, none⟩
    events := s.events.map fun x => { x with flags := x.flags ||| eventMask .mark ||| eventMask .state } }

/-- The empty Mark List takes the SESSION_OPEN Mark, which meets no Block and no restriction (R82, R154, R155). -/
theorem State.opened_eq (s : State) (p : Port) (verify : Bool) : s.opened p verify = s.inNewSession p verify := rfl

theorem State.inNewSession_events (s : State) (p : Port) (verify : Bool) (q : Port) :
    (s.inNewSession p verify).events.get q = { s.events.get q with
      flags := (s.events.get q).flags ||| eventMask .mark ||| eventMask .state } := Both.get_map s.events _ q

theorem State.inNewSession_reader (s : State) (p : Port) (verify : Bool) (q : Port) :
    (s.inNewSession p verify).readers.get q = (s.readers.get q).opened := Both.get_map s.readers _ q

/-- A change of a Bench Line that has begun is from before the Session (R95). -/
theorem State.inNewSession_line (s : State) (p : Port) (verify : Bool) (l : Line) :
    (s.inNewSession p verify).proc.lines.get l = (s.proc.lines.get l).beforeOpening := by
  cases l <;> rfl

theorem nextSession_eq (n : Nat) : nextSession n = if n < 65535 then n + 1 else 1 := by
  unfold nextSession
  split <;> split <;> omega

/-- An attached Reader stands at the start of the Session, EMPTY, with its retention and Level Pair kept (R83). -/
theorem Reader.opened_attached (x : Reader) (h : x.state ≠ .detached) : x.opened = { x with
    state := .following, read := 0, release := 0, mark := 0, skipped := 0, missed := 0
    flight := x.flight.map Transfer.lostToOpening
    flags := Reader.flagsAt { x with state := .following, read := 0, release := 0 } 0 } :=
  if_pos (x.attached_iff.2 h)

theorem Reader.opened_detached (x : Reader) (h : x.state = .detached) : x.opened = x :=
  if_neg fun ha => x.attached_iff.1 ha h

/-- At the start of an empty record a Reader is EMPTY and has nothing to tell of (R129). -/
theorem Reader.flagsAt_start (x : Reader) (ha : x.attached = true) (hr : x.read = 0) :
    (x.flagsAt 0).empty = true ∧ (x.flagsAt 0).avail = false := by
  simp [Reader.flagsAt, ha, Reader.avail, hr]

/-- The opening overtakes a transfer of Blocks or Marks, and leaves an empty reply as begun (R83). -/
theorem Transfer.lostToOpening_eq (t : Transfer) : t.lostToOpening =
    if t.delivery = .emptyReply then t else { t with overtaken := some (t.overtaken.getD t.edges) } := by
  unfold Transfer.lostToOpening
  cases t.delivery <;> simp

/-- Settles O23: the tests by the branches of `State.openSession`, the new Session by `State.opened_eq`. -/
theorem openSession : Obligations.OpenSession := by
  unfold Obligations.OpenSession
  intro p f c s htakes hhears full undrained
  have hanswer : ∀ {r t}, (s.shifted p f).openSession p c = (r, t) →
      exec (.openSession p f) s = .next (t.setResult p r) := fun h =>
    (exec_openSession p f s).trans (congrArg _ (s.writeFrame_answers p f htakes hhears h))
  have hundrained : (s.shifted p f).undrained = true ↔ undrained := by
    have hreader : ∀ x, (s.shifted p f).readerUndrained x = true ↔ full x := (s.shifted p f).readerUndrained_iff
    unfold State.undrained
    rw [Bool.or_eq_true, Bool.or_eq_true, hreader, hreader, Option.isSome_iff_ne_none, or_assoc]
    exact Iff.rfl
  have hclosed : c.toNat ≤ 1 → s.proc.state = .closed → _ := (s.shifted p f).openSession_closed p (flag := c)
  refine ⟨fun hc => hanswer ((s.shifted p f).openSession_range p hc),
    fun hc hs => hanswer ((s.shifted p f).openSession_open p hc hs),
    fun hc hs hu => hanswer ((hclosed hc hs).trans (if_pos (hundrained.2 hu))), fun hc hs hu => ?_⟩
  have hverify : decide (c.toNat = 1) = decide (c = 1) :=
    decide_eq_decide.2 ⟨fun h => BitVec.eq_of_toNat_eq h, fun h => h ▸ rfl⟩
  have hopened := (hclosed hc hs).trans (if_neg (mt hundrained.1 hu))
  rw [State.opened_eq] at hopened
  have hevents := (s.shifted p f).inNewSession_events p (decide (c.toNat = 1))
  have hreaders := (s.shifted p f).inNewSession_reader p (decide (c.toNat = 1))
  have hlines := (s.shifted p f).inNewSession_line p (decide (c.toNat = 1))
  refine ⟨_, hanswer hopened, rfl, rfl, rfl, rfl, rfl, nextSession_eq s.proc.session, hverify, rfl,
    rfl, rfl, rfl, rfl, rfl, rfl, rfl, rfl,
    fun q => congrArg EventPort.flags (hevents q), fun q hq => ?_, fun k => ?_, rfl, rfl, hlines,
    fun q => (congrArg EventPort.mask (hevents q)).trans rfl,
    fun q hq => (hreaders q).trans (Reader.opened_detached _ hq), rfl, rfl, rfl, rfl, rfl, rfl⟩
  · obtain ⟨hempty, havail⟩ := Reader.flagsAt_start
      { s.readers.get q with state := .following, read := 0, release := 0 } rfl rfl
    rw [State.setResult_readers, hreaders, State.shifted_readers, Reader.opened_attached _ hq]
    refine ⟨rfl, rfl, rfl, rfl, rfl, rfl, rfl, rfl, rfl, rfl, hempty, havail, fun hnone => ?_, fun g hg => ?_⟩
    · exact congrArg (Option.map Transfer.lostToOpening) hnone
    · rw [hg, Option.map_some, g.lostToOpening_eq]
  · exact ⟨Vector.getElem_replicate k.isLt, Vector.getElem_replicate k.isLt⟩

end Sys2Proof.Machine
end

section
/-! What a Block Boundary makes of the Session: the state after it, the taking of a pending target, and the two
closings (R90 to R93). -/

namespace Sys2Proof.Machine

/-! ### The state after a boundary (R90 to R93) -/

/-- The boundary closes the Session for CLOSE pending or at the session length limit (R91, R92). -/
theorem State.closesHere_iff (s : State) : s.closesHere = true ↔
    s.proc.target.map Prod.fst = some .close ∨ 4294967295 ≤ s.proc.periods := by
  unfold State.closesHere
  rw [Bool.or_eq_true, Proceedings.closePending_iff, decide_eq_true_iff]
  exact Iff.rfl

theorem State.nextState_closes (s : State) (h : s.closesHere = true) : s.nextState = .closed := if_pos h

theorem State.nextState_untargeted (s : State) (h : ¬s.closesHere = true) (ht : s.proc.target = none) :
    s.nextState = s.proc.state := by
  simp [State.nextState, h, ht]

/-- PRIVACY turns a pending ON_RECORD into SIDEBAR (R90). -/
theorem State.nextState_onRecord (s : State) (h : ¬s.closesHere = true) {who : Party}
    (ht : s.proc.target = some (.onRecord, who)) :
    s.nextState = if s.proc.lines.privacy.level then .sidebar else .onRecord := by
  simp [State.nextState, h, ht]

theorem State.nextState_offRecord (s : State) (h : ¬s.closesHere = true) {who : Party}
    (ht : s.proc.target = some (.offRecord, who)) : s.nextState = .offRecord := by
  simp [State.nextState, h, ht]

theorem State.nextState_sidebar (s : State) (h : ¬s.closesHere = true) {who : Party}
    (ht : s.proc.target = some (.sidebar, who)) : s.nextState = .sidebar := by
  simp [State.nextState, h, ht]

theorem ProceedingsState.records_iff (x : ProceedingsState) : x.records = true ↔ x = .onRecord ∨ x = .sidebar := by
  cases x <;> simp [ProceedingsState.records]

/-! ### The taking of a pending target (R90) -/

theorem State.takeTarget_same (s : State) (h : s.stateForMarks = s.proc.state) :
    s.takeTarget = s.setTarget none := if_pos h

/-- A change of state brings a STATE Mark with the recorded origin, and STATE on both ports (R90). -/
theorem State.takeTarget_changes (s : State) {next : ProceedingsState}
    {wait : Option (Nat × Option (Fin 32) × Bool)} {target : Target} {who : Party}
    (hstage : s.stage = .turned next wait) (ht : s.proc.target = some (target, who)) (hn : next ≠ s.proc.state)
    (hopen : next ≠ .closed) : s.takeTarget = State.raiseBoth
      (State.insertMark { s with proc := { s.proc with state := next, target := none } }
        ⟨.state, who, s.proc.clock, (stateCode next).setWidth 16, none, false, false⟩).floorNext .state := by
  have hwho : s.targetOrigin = who := by simp [State.targetOrigin, ht]
  unfold State.takeTarget
  rw [s.stateForMarks_turned hstage, hwho]
  refine (if_neg hn).trans (congrArg (State.raiseBoth · .state) ?_)
  exact State.boundaryMark_open { s with proc := { s.proc with state := next, target := none } } _ hstage
    ((State.sessionOpen_iff _).2 hopen)

/-- Settles O46: the state after the boundary by `State.nextState`, the taking by `State.takeTarget`. -/
theorem boundaryState : Obligations.BoundaryState := by
  unfold Obligations.BoundaryState
  constructor
  · intro s t closes
    let u := s.setProc { s.proc with periods := s.proc.periods + 1 }
    have hcloses : u.closesHere = true ↔ closes := u.closesHere_iff
    have hgoes : ¬closes → ¬u.closesHere = true := mt hcloses.1
    exact ⟨u.nextState, rfl, rfl, decide_eq_true_iff, u.nextState.records_iff, rfl, rfl,
      fun h => u.nextState_closes (hcloses.2 h), fun h => u.nextState_untargeted (hgoes h),
      fun _ h => u.nextState_onRecord (hgoes h), fun _ h => u.nextState_offRecord (hgoes h),
      fun _ h => u.nextState_sidebar (hgoes h)⟩
  · intro s next wait target who hlive hstage hgoes hopen ht
    have hturned := s.turned_of_stage hstage
    have hdue : s.targetDue = true := by
      rw [State.targetDue, s.pastClose_eq hturned, s.closeDue_false (.inl hgoes), ht]
      rfl
    rw [exec_pendingTargetTake, s.atBoundary_due _ _ hlive hturned hdue]
    refine ⟨fun hn => ?_, fun hn hc => ?_⟩
    · rw [s.takeTarget_same ((s.stateForMarks_turned hstage).trans hn)]
      rfl
    · rw [s.takeTarget_changes hstage ht hn hc]

/-! ### The closings (R91, R92) -/

theorem exec_sessionClose (s : State) : exec .sessionClose s =
    .next (s.atBoundary (fun t => t.closeDue && t.proc.closePending) State.closeNow) := rfl

theorem exec_sessionLengthLimit (s : State) : exec .sessionLengthLimit s =
    .next (s.atBoundary (fun t => t.closeDue && decide (t.proc.periods ≥ sessionLimit)) State.closeNow) := rfl

/-- With CLOSE pending the SESSION_CLOSE Mark has COMMAND and the recorded origin (R91, R92). -/
theorem State.closeRequest_command (s : State) {who : Party} (h : s.proc.target = some (.close, who)) :
    s.closeRequest = ⟨.sessionClose, who, s.proc.clock, 0, none, false, false⟩ := by
  simp [State.closeRequest, h]

/-- Without it, whatever target is pending, the Mark has LIMIT and DEVICE (R92). -/
theorem State.closeRequest_limit (s : State) (h : s.proc.target.map Prod.fst ≠ some .close) :
    s.closeRequest = ⟨.sessionClose, .device, s.proc.clock, 1, none, false, false⟩ := by
  unfold State.closeRequest
  split
  · rename_i ht
    exact absurd (congrArg (Option.map Prod.fst) ht) h
  all_goals rfl

/-- Settles O47: both rows are `State.closeNow`, whose Mark `State.closeRequest` tells. -/
theorem sessionCloses : Obligations.SessionCloses := by
  unfold Obligations.SessionCloses
  intro s next hlive hstage hopen closed
  have hturned := s.turned_of_stage hstage
  have hcommand : ∀ {who}, s.proc.target = some (.close, who) → s.closeNow = closed who 0 := fun ht => by
    rw [State.closeNow, s.closeRequest_command ht]
    rfl
  have hdue : s.closesHere = true → s.closeDue = true := fun h =>
    (s.closeDue_iff hturned).2 ⟨s.sessionOpen_iff.1 hopen, h⟩
  have hlimit : 4294967295 ≤ s.proc.periods → exec .sessionLengthLimit s = .next s.closeNow := fun hp => by
    rw [exec_sessionLengthLimit, s.atBoundary_due _ _ hlive hturned
      (Bool.and_eq_true_iff.2 ⟨hdue (s.closesHere_iff.2 (.inr hp)), decide_eq_true hp⟩)]
  refine ⟨fun who ht => ?_, fun who ht hp => ?_, fun ht hp => ?_⟩
  · have hpending : s.proc.target.map Prod.fst = some .close := congrArg (Option.map Prod.fst) ht
    rw [exec_sessionClose, s.atBoundary_due _ _ hlive hturned (Bool.and_eq_true_iff.2
      ⟨hdue (s.closesHere_iff.2 (.inl hpending)), s.proc.closePending_iff.2 hpending⟩), hcommand ht]
  · rw [hlimit hp, hcommand ht]
  · rw [hlimit hp, State.closeNow, s.closeRequest_limit ht]
    rfl

end Sys2Proof.Machine
end

section
/-! What the freeing of the Oldest Block does to the ring, the Readers, the Holds and the Event Flags, field by field
(R103, R107 to R109, R117). -/

namespace Sys2Proof.Machine

/-! ### A Reader that a freeing reaches (R107, R109) -/

theorem Reader.yields_iff (x : Reader) :
    x.yields = true ↔ x.state ≠ .detached ∧ x.retention = some .yielding := by
  rw [Reader.yields, Bool.and_eq_true, Reader.attached_iff, decide_eq_true_iff]

/-- A Reader with the freed Block's transfer overtaken, its cursors as before (R109). -/
def Reader.overtakenBy (x : Reader) (q : Nat) : Reader :=
  { x with flight := x.flight.map fun t => t.freedBlock q }

theorem Reader.afterFreeing_other (x : Reader) (q : Nat) (h : ¬(x.yields = true ∧ x.release ≤ q)) :
    x.afterFreeing q = x.overtakenBy q := if_neg h

/-- A reached Reader that has read the Block loses only its claim to it (R107). -/
theorem Reader.afterFreeing_read (x : Reader) (q : Nat) (h : x.yields = true ∧ x.release ≤ q) (hr : q < x.read) :
    x.afterFreeing q = { x.overtakenBy q with release := q + 1 } :=
  (if_pos h).trans (if_neg hr.not_ge)

/-- A reached Reader that has not read the Block is cut (R107). -/
theorem Reader.afterFreeing_unread (x : Reader) (q : Nat) (h : x.yields = true ∧ x.release ≤ q) (hr : x.read ≤ q) :
    x.afterFreeing q = { x.overtakenBy q with
      release := q + 1, read := q + 1, skipped := countTo 4294967295 x.skipped, state := .cut } :=
  (if_pos h).trans (if_pos hr)

theorem Reader.afterFreeing_flight (x : Reader) (q : Nat) :
    (x.afterFreeing q).flight = x.flight.map fun t => t.freedBlock q := by
  unfold Reader.afterFreeing
  dsimp only
  split
  · split <;> rfl
  · rfl

theorem Transfer.freedBlock_live (t : Transfer) (q : Nat) (h : t.overtaken = none) :
    t.freedBlock q = if t.delivery = .block q then { t with overtaken := some t.edges } else t := by
  simp [Transfer.freedBlock, h]

/-! ### A Hold that a freeing reaches (R108, R117) -/

theorem holdTrimmed_iff (q : Nat) (h : Hold) : holdTrimmed q h = true ↔ h.cls = .yielding ∧ h.first = q :=
  decide_eq_true_iff

theorem trimHold_other (q : Nat) (h : Hold) (hk : ¬(h.cls = .yielding ∧ h.first = q)) :
    trimHold q (some h) = some h := if_neg (mt (holdTrimmed_iff q h).1 hk)

theorem trimHold_shortened (q : Nat) (h : Hold) (hk : h.cls = .yielding ∧ h.first = q) (hl : q < h.last) :
    trimHold q (some h) = some { h with first := q + 1 } :=
  (if_pos ((holdTrimmed_iff q h).2 hk)).trans (if_neg (by omega))

theorem trimHold_gone (q : Nat) (h : Hold) (hk : h.cls = .yielding ∧ h.first = q) (hl : h.last ≤ q) :
    trimHold q (some h) = none := (if_pos ((holdTrimmed_iff q h).2 hk)).trans (if_pos (by omega))

/-- What is left of a Hold after a freeing is the Hold, or the rest of a YIELDING one (R108). -/
theorem trimHold_eq_some {q : Nat} {e : Option Hold} {h : Hold} (ht : trimHold q e = some h) :
    ∃ g, e = some g ∧ h.owner = g.owner ∧ h.cls = g.cls ∧ h.last = g.last ∧
      (h = g ∧ ¬(g.cls = .yielding ∧ g.first = q) ∨
        (g.cls = .yielding ∧ g.first = q) ∧ h.first = q + 1 ∧ q < g.last) := by
  cases e with
  | none => cases ht
  | some g =>
    refine ⟨g, rfl, ?_⟩
    by_cases hk : g.cls = .yielding ∧ g.first = q
    · obtain hl | hl := Nat.lt_or_ge q g.last
      · rw [trimHold_shortened q g hk hl] at ht
        cases ht
        exact ⟨rfl, rfl, rfl, .inr ⟨hk, rfl, hl⟩⟩
      · rw [trimHold_gone q g hk hl] at ht
        cases ht
    · rw [trimHold_other q g hk] at ht
      cases ht
      exact ⟨rfl, rfl, rfl, .inl ⟨rfl, hk⟩⟩

theorem lastPlacedAfter_some (holds : Vector (Option Hold) 8) (e : Fin 8) :
    lastPlacedAfter holds (some e) = if holds[e] = none then none else some e := by
  unfold lastPlacedAfter
  cases h : holds[e] <;> simp [h]

/-! ### The Event Flags (R107, R108) -/

/-- The freeing of Sequence `q` reaches a Hold of this port (R108). -/
def State.trims (s : State) (q : Nat) (p : Port) : Bool :=
  s.ring.holds.toList.any fun e => e.any fun h => holdTrimmed q h && decide (h.owner = p)

theorem State.trims_iff (s : State) (q : Nat) (p : Port) : s.trims q p = true ↔
    ∃ (e : Fin 8) (h : Hold), s.ring.holds[e] = some h ∧ h.cls = .yielding ∧ h.first = q ∧ h.owner = p := by
  have hone : ∀ h : Hold, (holdTrimmed q h && decide (h.owner = p)) = true ↔
      h.cls = .yielding ∧ h.first = q ∧ h.owner = p := fun h => by
    rw [Bool.and_eq_true, holdTrimmed_iff, decide_eq_true_iff, and_assoc]
  simp only [State.trims, List.any_eq_true, Vector.mem_toList_iff, Vector.mem_iff_getElem, Option.any_eq_true, hone]
  constructor
  · rintro ⟨_, ⟨i, hi, rfl⟩, h, hh, hk⟩
    exact ⟨⟨i, hi⟩, h, hh, hk⟩
  · rintro ⟨e, h, hh, hk⟩
    exact ⟨_, ⟨e, e.isLt, rfl⟩, h, hh, hk⟩

/-- The Event Flags that the freeing of Sequence `q` sets on a port. -/
def State.freeingFlags (s : State) (q : Nat) (p : Port) : BitVec 16 :=
  (if (s.readers.get p).isCutBy q then eventMask .cut else 0) |||
    if s.trims q p then eventMask .holdTrimmed else 0

theorem State.raiseIf_events (s : State) (c : Bool) (p r : Port) (e : Event) :
    (if c then s.raise p e else s).events.get r = { s.events.get r with
      flags := (s.events.get r).flags ||| if r = p ∧ c = true then eventMask e else 0 } := by
  cases c
  · simp
  · obtain rfl | rfl := otherPort_cases p r
    · simp
    · have hne : otherPort p ≠ p := by cases p <;> decide
      simp [Both.update, hne]

theorem State.freeOldest_events (s : State) (p : Port) : s.freeOldest.events.get p = { s.events.get p with
    flags := (s.events.get p).flags ||| s.freeingFlags s.ring.oldest p } := by
  have hcut : ∀ (t : State) (r : Port), t.raiseCut s.ring.oldest r =
      if (t.readers.get r).isCutBy s.ring.oldest then t.raise r .cut else t := fun _ _ => rfl
  have htrim : ∀ (t : State) (r : Port), t.raiseTrimmed s.ring.oldest r =
      if t.trims s.ring.oldest r then t.raise r .holdTrimmed else t := fun _ _ => rfl
  have hlast : s.freeOldest.events.get p = ((((s.raiseCut s.ring.oldest .a).raiseCut s.ring.oldest .b).raiseTrimmed
      s.ring.oldest .a).raiseTrimmed s.ring.oldest .b).events.get p := rfl
  obtain ⟨e, h₁⟩ := s.raiseCut_keeps s.ring.oldest .a
  obtain ⟨e', h₂⟩ := (s.raiseCut s.ring.oldest .a).raiseCut_keeps s.ring.oldest .b
  obtain ⟨e'', h₃⟩ := ((s.raiseCut s.ring.oldest .a).raiseCut s.ring.oldest .b).raiseTrimmed_keeps s.ring.oldest .a
  have hr₁ : (s.raiseCut s.ring.oldest .a).readers = s.readers := by rw [h₁]
  have ht₂ : ∀ r, ((s.raiseCut s.ring.oldest .a).raiseCut s.ring.oldest .b).trims s.ring.oldest r =
      s.trims s.ring.oldest r := fun r => by rw [h₂, h₁]; rfl
  have ht₃ : ∀ r, (((s.raiseCut s.ring.oldest .a).raiseCut s.ring.oldest .b).raiseTrimmed s.ring.oldest .a).trims
      s.ring.oldest r = s.trims s.ring.oldest r := fun r => by rw [h₃, h₂, h₁]; rfl
  rw [hlast, htrim, State.raiseIf_events, ht₃, htrim, State.raiseIf_events, ht₂, hcut, State.raiseIf_events, hr₁,
    hcut, State.raiseIf_events]
  cases p <;> simp [State.freeingFlags, BitVec.or_assoc]

/-- The two events of a freeing are two bits. -/
theorem State.freeingFlags_bits (s : State) (q : Nat) (p : Port) :
    s.freeingFlags q p &&& eventMask .cut = (if (s.readers.get p).isCutBy q then eventMask .cut else 0) ∧
      s.freeingFlags q p &&& eventMask .holdTrimmed = if s.trims q p then eventMask .holdTrimmed else 0 := by
  unfold State.freeingFlags
  cases (s.readers.get p).isCutBy q <;> cases s.trims q p <;> decide

/-- A flag that is set by a freeing when `c` holds, and stands as before when it does not. -/
theorem flags_raised {x y m : BitVec 16} {c : Bool} (hm : m ≠ 0) (h : y &&& m = if c then m else 0) :
    (c = true → (x ||| y) &&& m ≠ 0) ∧ (¬c = true → (x ||| y) &&& m = x &&& m) := by
  have hor : (x ||| y) &&& m = x &&& m ||| y &&& m := by
    rw [BitVec.and_comm, BitVec.and_or_distrib_left, BitVec.and_comm m x, BitVec.and_comm m y]
  rw [hor, h]
  refine ⟨fun hc hz => ?_, fun hc => ?_⟩
  · rw [if_pos hc] at hz
    exact hm (BitVec.or_eq_zero_iff.1 hz).2
  · rw [if_neg hc]
    exact BitVec.or_zero

/-! ### The fields of the state after a freeing -/

/-- A freeing reaches the ring, the Readers and the Event Flags (R103, R107 to R109). -/
theorem State.freeOldest_eq (s : State) : s.freeOldest = { s with
    readers := s.readers.map fun x => x.afterFreeing s.ring.oldest
    ring := { s.ring with blocks := s.ring.blocks.tail }.withHolds
      (Vector.ofFn fun i => trimHold s.ring.oldest s.ring.holds[i])
    events := s.freeOldest.events } := by
  unfold State.freeOldest
  dsimp only
  obtain ⟨e₁, h₁⟩ := s.raiseCut_keeps s.ring.oldest .a
  obtain ⟨e₂, h₂⟩ := (s.raiseCut s.ring.oldest .a).raiseCut_keeps s.ring.oldest .b
  rw [h₁] at h₂
  obtain ⟨e₃, h₃⟩ := State.raiseTrimmed_keeps { s with events := e₂ } s.ring.oldest .a
  obtain ⟨e₄, h₄⟩ := State.raiseTrimmed_keeps { s with events := e₃ } s.ring.oldest .b
  simp only [h₁, h₂, h₃, h₄]

theorem State.freeOldest_reader (s : State) (p : Port) :
    s.freeOldest.readers.get p = (s.readers.get p).afterFreeing s.ring.oldest := by
  rw [s.freeOldest_eq]
  exact Both.get_map _ _ p

theorem State.freeOldest_hold (s : State) (e : Fin 8) :
    s.freeOldest.ring.holds[e] = trimHold s.ring.oldest s.ring.holds[e] := by
  rw [s.freeOldest_eq]
  exact Vector.getElem_ofFn e.isLt

theorem State.freeOldest_lastPlaced (s : State) (p : Port) : s.freeOldest.ring.lastPlaced.get p =
    lastPlacedAfter s.freeOldest.ring.holds (s.ring.lastPlaced.get p) := by
  rw [s.freeOldest_eq]
  exact Both.get_map _ _ p

/-- Settles O44: the fields of the freed state by `State.freeOldest_eq`, a Reader by the three cases of
`Reader.afterFreeing`, the flags by the two bits of `State.freeingFlags`, a Hold by the cases of `trimHold`. -/
theorem freeingReaches : Obligations.FreeingReaches := by
  unfold Obligations.FreeingReaches
  intro s q t
  have hring : t.ring = _ := congrArg State.ring s.freeOldest_eq
  refine ⟨(congrArg Ring.blocks hring).trans rfl, (congrArg Ring.next hring).trans rfl,
    (congrArg Ring.gap hring).trans rfl, ?_, fun p => ?_,
    fun e he => ?_, fun e h he => ⟨fun hc hf hl => ?_, fun hc hf hl => ?_, fun hk => ?_⟩⟩
  · obtain ⟨r, e, g, heq, _⟩ := s.freeOldest_keeps
    change s.freeOldest = { s with
      ring := s.freeOldest.ring, readers := s.freeOldest.readers, events := s.freeOldest.events }
    rw [heq]
  · intro x y reached
    have hreader : y = x.afterFreeing q := s.freeOldest_reader p
    have hevents : t.events.get p = _ := s.freeOldest_events p
    have hreached : reached ↔ x.yields = true ∧ x.release ≤ q := by
      rw [Reader.yields_iff, and_assoc]
    have hcut : x.isCutBy q = true ↔ reached ∧ x.read ≤ q ∧ x.state = .following := by
      rw [hreached, Reader.isCutBy, decide_eq_true_iff, and_assoc]
    obtain ⟨hcutBit, htrimBit⟩ := s.freeingFlags_bits q p
    obtain ⟨hcutSet, hcutKept⟩ := flags_raised (x := (s.events.get p).flags) (by decide) hcutBit
    obtain ⟨htrimSet, htrimKept⟩ := flags_raised (x := (s.events.get p).flags) (by decide) htrimBit
    refine ⟨fun hr => ?_, fun hr hread => ?_, fun hr hread => ?_, fun hr hread hs => ?_, fun hn => ?_,
      fun htr => ?_, fun htr => ?_, ?_, fun hnone => ?_, fun e he => ?_, fun f hf hlive => ?_⟩
    · rw [hreader, x.afterFreeing_other q (mt hreached.2 hr)]
      rfl
    · rw [hreader, x.afterFreeing_read q (hreached.1 hr) hread]
      rfl
    · rw [hreader, x.afterFreeing_unread q (hreached.1 hr) hread]
      rfl
    · rw [hevents]
      exact hcutSet (hcut.2 ⟨hr, hread, hs⟩)
    · rw [hevents]
      exact hcutKept (mt hcut.1 hn)
    · rw [hevents]
      exact htrimSet ((s.trims_iff q p).2 htr)
    · rw [hevents]
      exact htrimKept (mt (s.trims_iff q p).1 htr)
    · rw [hevents]
    · exact (s.freeOldest_lastPlaced p).trans (by rw [hnone]; rfl)
    · rw [← lastPlacedAfter_some, ← he]
      exact s.freeOldest_lastPlaced p
    · rw [hreader, x.afterFreeing_flight, hf, Option.map_some, f.freedBlock_live q hlive]
  all_goals rw [s.freeOldest_hold, he]
  · rfl
  · exact trimHold_shortened q h ⟨hc, hf⟩ hl
  · exact trimHold_gone q h ⟨hc, hf⟩ hl
  · exact trimHold_other q h hk

end Sys2Proof.Machine
end

section
/-! The Slots that can be had, and the storings of a Block Boundary by the Block, the Pending Gap and those Slots
(R103, R105, R106, R111 to R115). -/

namespace Sys2Proof.Machine

/-! ### The Slots (R105, R106) -/

theorem State.obtainableSlots_free (s : State) (h : s.ring.blocks.length ≤ 8190) : s.obtainableSlots = 2 :=
  if_pos (by omega)

theorem State.obtainableSlots_last (s : State) (h : s.ring.blocks.length = 8191) :
    s.obtainableSlots = if s.permits s.ring.oldest then 2 else 1 :=
  (if_neg (by omega)).trans (if_pos (by omega))

theorem State.obtainableSlots_full (s : State) (h : s.ring.blocks.length = 8192) :
    s.obtainableSlots =
      if s.permits s.ring.oldest then (if s.permits (s.ring.oldest + 1) then 2 else 1) else 0 :=
  (if_neg (by omega)).trans (if_neg (by omega))

theorem State.permits_false (s : State) {q : Nat} (h : s.slotKept q) : s.permits q = false :=
  Bool.not_eq_true _ ▸ fun hp => (s.permits_iff q).1 hp h

/-- A Slot can be had unless the ring is full and retention keeps its Oldest Block (R105, R106). -/
theorem State.obtainableSlots_zero_iff (s : State) (h : s.ring.blocks.length ≤ 8192) :
    s.obtainableSlots = 0 ↔ s.ring.blocks.length = 8192 ∧ s.slotKept s.ring.oldest := by
  obtain hlt | hfull := Nat.lt_or_eq_of_le h
  · exact iff_of_false (Nat.ne_of_gt (s.obtainableSlots_pos hlt)) fun hk => hlt.ne hk.1
  · rw [s.obtainableSlots_full hfull]
    by_cases hk : s.slotKept s.ring.oldest
    · rw [s.permits_false hk]
      exact iff_of_true rfl ⟨hfull, hk⟩
    · rw [if_pos ((s.permits_iff _).2 hk)]
      exact iff_of_false (by split <;> decide) fun hk' => hk hk'.2

/-! ### A Gap that waits, or none (R111 to R115) -/

section
variable (s : State) (b : Block)

theorem State.tryStoreGap_none (h : s.ring.gap = none) : s.tryStoreGap = s := by
  simp only [State.tryStoreGap, h]

theorem State.tryStoreGap_some {g : PendingGap} (h : s.ring.gap = some g) :
    s.tryStoreGap = if 1 ≤ s.obtainableSlots then s.storeGap g else s := by
  simp only [State.tryStoreGap, h, ge_iff_le]

theorem State.storeRecording_none (h : s.ring.gap = none) :
    s.storeRecording b = if 1 ≤ s.obtainableSlots then s.storeBlock b else s.joinGap b := by
  simp only [State.storeRecording, h, ge_iff_le]

theorem State.storeRecording_some {g : PendingGap} (h : s.ring.gap = some g) : s.storeRecording b =
    if s.obtainableSlots = 2 then (s.storeGap g).storeBlock b
    else if s.obtainableSlots = 1 then s.storeGap (Machine.joinGap (some g) b)
    else s.joinGap b := by
  simp only [State.storeRecording, h]

end

/-! ### What a storing leaves in the ring (R103, R115) -/

/-- A stored Block is the newest one (R103). -/
theorem State.storeBlock_ring (s : State) (b : Block) : (s.storeBlock b).ring.next = s.ring.next + 1 ∧
    (s.storeBlock b).ring.gap = s.ring.gap ∧
    (s.storeBlock b).ring.blocks.getLast? = some { b with sequence := s.ring.next } ∧
    (s.storeBlock b).ring.blocks.dropLast.getLast? = s.ring.blocks.getLast? := by
  obtain ⟨r, e, g, heq, hnext, hgap, hblocks⟩ := s.storeBlock_keeps b
  rw [heq]
  refine ⟨hnext, hgap, ?_, ?_⟩
  · rw [hblocks]
    exact List.getLast?_concat
  · rw [hblocks, List.dropLast_concat]
    split
    · rw [List.getLast?_tail, if_neg (by omega)]
    · rfl

/-- A stored GAP Block is the newest one, and leaves no Gap (R115). -/
theorem State.storeGap_ring (s : State) (g : PendingGap) : (s.storeGap g).ring.next = s.ring.next + 1 ∧
    (s.storeGap g).ring.gap = none ∧ (s.storeGap g).ring.blocks.getLast? = some (s.gapBlock g) := by
  obtain ⟨r, e, x, heq, hnext, hgap, hblocks⟩ := s.storeGap_keeps g
  rw [heq]
  refine ⟨hnext, hgap, ?_⟩
  rw [hblocks]
  exact List.getLast?_concat

theorem State.storeGap_flagged (s : State) (g : PendingGap) (p : Port) : (s.storeGap g).flagged p .gap :=
  State.raiseBoth_flagged _ .gap p

/-- Settles O43: the Slots by `State.permits_iff`, the storings by the equations of `State.storeRecording` and
`State.tryStoreGap`. -/
theorem storingTable : Obligations.StoringTable := by
  unfold Obligations.StoringTable
  intro s b hlen t slots n stored quiet gapBlock put putGap count oldest
  have hquiet : quiet = s.tryStoreGap := rfl
  have hrec : t = s.storeRecording b := rfl
  have hput : ∀ u x, put u x = u.storeBlock x := fun _ _ => rfl
  have hputGap : ∀ g, putGap g = s.storeGap g := fun _ => rfl
  have hfree : ∀ {q}, ¬s.slotKept q → s.permits q = true := fun hk => (s.permits_iff _).2 hk
  have hkept : ∀ {q}, s.slotKept q → s.permits q = false := fun hk => s.permits_false hk
  refine ⟨s.obtainableSlots_free, fun hc => ⟨fun hk => ?_, fun hk => ?_⟩,
    fun hc => ⟨fun hk => ?_, fun hk hk' => ?_, fun hk hk' => ?_⟩, fun hg => ?_,
      fun g hg => ⟨fun hs => ?_, fun hs => ?_⟩,
    fun hg hs => ?_, fun g hg hs => ?_, fun g hg hs => ?_, fun hg hs => ?_, fun hg hs => ?_,
    fun g hg => ⟨fun hs => ?_, fun hs => ?_, fun hs => ?_⟩⟩
  · exact (s.obtainableSlots_last hc).trans (by rw [show s.permits s.ring.oldest = false from hkept hk]; rfl)
  · exact (s.obtainableSlots_last hc).trans (if_pos (hfree hk))
  · exact (s.obtainableSlots_full hc).trans (by rw [show s.permits s.ring.oldest = false from hkept hk]; rfl)
  · exact (s.obtainableSlots_full hc).trans ((if_pos (hfree hk)).trans
      (by rw [show s.permits (s.ring.oldest + 1) = false from hkept hk']; rfl))
  · exact (s.obtainableSlots_full hc).trans ((if_pos (hfree hk)).trans (if_pos (hfree hk')))
  · exact s.tryStoreGap_none hg
  · exact (s.tryStoreGap_some hg).trans (if_pos hs)
  · exact (s.tryStoreGap_some hg).trans (if_neg (by omega))
  · exact (s.storeRecording_none b hg).trans (if_pos hs)
  · exact (s.storeRecording_some b hg).trans (if_pos hs)
  · exact (s.storeRecording_some b hg).trans ((if_neg (by omega)).trans (if_pos hs))
  · obtain ⟨hnext, hgap, hlast, _⟩ := s.storeBlock_ring b
    rw [hrec, s.storeRecording_none b hg, if_pos hs]
    exact ⟨hnext, hgap.trans hg, hlast⟩
  · rw [hrec, s.storeRecording_none b hg, if_neg (by omega), State.joinGap, hg]
    rfl
  · obtain ⟨hnext, hgap, hlast⟩ := s.storeGap_ring g
    obtain ⟨hnext', hgap', hlast', hbefore⟩ := (s.storeGap g).storeBlock_ring b
    rw [hrec, s.storeRecording_some b hg, if_pos hs]
    rw [hnext] at hnext' hlast'
    exact ⟨hnext', hgap'.trans hgap, hlast', hbefore.trans hlast⟩
  · obtain ⟨hnext, hgap, hlast⟩ := s.storeGap_ring (Machine.joinGap (some g) b)
    rw [hrec, s.storeRecording_some b hg, if_neg (by omega), if_pos hs]
    exact ⟨hnext, hgap, hlast, s.storeGap_flagged _⟩
  · rw [hrec, s.storeRecording_some b hg, if_neg (by omega), if_neg (by omega), State.joinGap, hg]
    rfl

end Sys2Proof.Machine
end

section
/-! STORE_GAP_BLOCK and MARKS_LOST_STORE: what is still due is stored once retention leaves room for it (R106, R115,
R116, R157, R161, R162). -/

namespace Sys2Proof.Machine

theorem exec_storeGapBlock (s : State) :
    exec .storeGapBlock s = .next (if s.live then s.finishBoundary.drainGap else s) := rfl

theorem exec_marksLostStore (s : State) :
    exec .marksLostStore s = .next (if s.live then s.finishBoundary.drainLost else s) := rfl

/-! ### The re-counts (R116, R162) -/

theorem State.inRecordingPeriod_iff (s : State) :
    (s.sessionOpen && s.proc.recording) = true ↔ s.proc.state ≠ .closed ∧ s.proc.recording = true := by
  rw [Bool.and_eq_true, s.sessionOpen_iff]

theorem State.drainGap_recording (s : State) (h : s.proc.state ≠ .closed ∧ s.proc.recording = true) :
    s.drainGap = s := if_pos (s.inRecordingPeriod_iff.2 h)

theorem State.drainGap_other (s : State) (h : ¬(s.proc.state ≠ .closed ∧ s.proc.recording = true)) :
    s.drainGap = s.tryStoreGap := if_neg (mt s.inRecordingPeriod_iff.1 h)

/-- In CLOSED the MARKS_LOST Mark is stored once an entry can be had (R162). -/
theorem State.drainLost_due (s : State) (hs : s.proc.state = .closed) (hl : s.marks.lost > 0)
    (he : 1 ≤ s.obtainableEntries) : s.drainLost = s.storeLost :=
  if_pos ⟨by simpa using mt s.sessionOpen_iff.1 (not_not.2 hs), hl, he⟩

theorem State.drainLost_not_due (s : State) (h : s.proc.state ≠ .closed ∨ s.obtainableEntries = 0) :
    s.drainLost = s := by
  refine if_neg fun ⟨hc, _, he⟩ => ?_
  obtain hs | h0 := h
  · rw [s.sessionOpen_iff.2 hs] at hc
    cases hc
  · omega

/-! ### The Mark List entries (R157) -/

theorem State.obtainableEntries_pos (s : State) (h : s.marks.marks.length < 1024) : 1 ≤ s.obtainableEntries := by
  unfold State.obtainableEntries
  dsimp only
  split
  · omega
  · rw [if_pos (by omega)]
    split <;> omega

theorem State.obtainableEntries_last (s : State) (h : s.marks.marks.length = 1023) :
    s.obtainableEntries = if s.marksBound s.marks.oldest then 1 else 2 :=
  (if_neg (by omega)).trans (if_pos (by omega))

theorem State.obtainableEntries_full (s : State) (h : s.marks.marks.length = 1024) :
    s.obtainableEntries = if s.marksBound s.marks.oldest then 0
      else if s.marksBound (s.marks.oldest + 1) then 1 else 2 :=
  (if_neg (by omega)).trans (if_neg (by omega))

/-- An entry can be had unless the list is full and a BINDING Mark Cursor keeps its oldest Mark (R157). -/
theorem State.obtainableEntries_zero_iff (s : State) (h : s.marks.marks.length ≤ 1024) :
    s.obtainableEntries = 0 ↔ s.marks.marks.length = 1024 ∧ s.markKept s.marks.oldest := by
  obtain hlt | hfull := Nat.lt_or_eq_of_le h
  · exact iff_of_false (Nat.one_le_iff_ne_zero.1 (s.obtainableEntries_pos hlt)) fun hk => hlt.ne hk.1
  · rw [s.obtainableEntries_full hfull]
    by_cases hk : s.markKept s.marks.oldest
    · rw [if_pos ((s.marksBound_iff _).2 hk)]
      exact iff_of_true rfl ⟨hfull, hk⟩
    · rw [if_neg (mt (s.marksBound_iff _).1 hk)]
      exact iff_of_false (by split <;> decide) fun hk' => hk hk'.2

/-- Settles O45: the rows run the re-counts on a part with no boundary open; a Gap waits for
`State.obtainableSlots_zero_iff` to fail, lost Marks for `State.obtainableEntries_zero_iff`. -/
theorem catchingUp : Obligations.CatchingUp := by
  unfold Obligations.CatchingUp
  refine ⟨?_, ?_⟩
  · intro s g hlive hidle hg hlen recording noSlot
    have hexec : exec .storeGapBlock s = .next s.drainGap := by
      rw [exec_storeGapBlock, if_pos hlive, s.finishBoundary_idle hidle]
    have hslots : s.obtainableSlots = 0 ↔ noSlot := s.obtainableSlots_zero_iff hlen
    rw [hexec]
    refine ⟨fun h => congrArg _ ?_, fun hr hn => ⟨s.storeGap g, congrArg _ ?_, ?_⟩⟩
    · by_cases hr : recording
      · exact s.drainGap_recording hr
      · have hzero := hslots.2 (h.resolve_left hr)
        rw [s.drainGap_other hr, s.tryStoreGap_some hg, if_neg (by omega)]
    · rw [s.drainGap_other hr, s.tryStoreGap_some hg, if_pos (Nat.one_le_iff_ne_zero.2 (mt hslots.1 hn))]
    · obtain ⟨hnext, hgap, hlast⟩ := s.storeGap_ring g
      obtain ⟨r, e, x, heq, _⟩ := s.storeGap_keeps g
      exact ⟨hgap, hnext, hlast, s.storeGap_flagged g, by rw [heq], by rw [heq], by rw [heq]⟩
  · intro s hlive hidle hlost hlen noEntry
    have hexec : exec .marksLostStore s = .next s.drainLost := by
      rw [exec_marksLostStore, if_pos hlive, s.finishBoundary_idle hidle]
    have hentries : s.obtainableEntries = 0 ↔ noEntry := s.obtainableEntries_zero_iff hlen
    rw [hexec]
    refine ⟨fun h => congrArg _ (s.drainLost_not_due (h.imp_right hentries.2)),
      fun hs hn => ⟨s.storeLost, congrArg _ ?_, ?_⟩⟩
    · exact s.drainLost_due hs hlost (Nat.one_le_iff_ne_zero.2 (mt hentries.1 hn))
    · have hflag : ∀ q, s.storeLost.flagged q .mark := fun q => State.raiseBoth_flagged _ .mark q
      obtain ⟨r, e, heq⟩ := s.storeLost_keeps
      have hmarks := s.storeLost_marks
      refine ⟨congrArg MarkList.lost hmarks, congrArg MarkList.firstLost hmarks, congrArg MarkList.next hmarks,
        ⟨s.makeMark s.lostRequest, ?_, rfl, rfl, rfl, rfl, rfl⟩, hflag, by rw [heq], by rw [heq], by rw [heq]⟩
      rw [hmarks]
      exact List.getLast?_concat

end Sys2Proof.Machine
end

section
/-! PLACE_HOLD and DROP_HOLD: their tests in order, the lowest free entry, and the ports' last-placed entries (R117 to
R119). -/

namespace Sys2Proof.Machine

theorem exec_placeHold (p : Port) (f : Frame) (s : State) : exec (.placeHold p f) s =
    .next (s.writeFrame p f 8 fun t bs => t.placeHold p (number bs 0 4) (number bs 4 4)) := rfl

theorem exec_dropHold (p : Port) (f : Frame) (s : State) : exec (.dropHold p f) s =
    .next (s.writeFrame p f 1 fun t bs => t.dropHold p (param bs 0).toNat) := rfl

/-- Two number fields read back where they were sent (R198). -/
theorem number_le_le (n v w : Nat) (hv : v < 256 ^ n) (hw : w < 256 ^ n) :
    number (le n v ++ le n w) 0 n = v ∧ number (le n v ++ le n w) n n = w := by
  have hfirst : number (le n v ++ le n w) 0 n = v % 256 ^ n := fieldAt_le n v (le n w)
  have hsecond : number (le n v ++ le n w) n n = number (le n w) 0 n := by
    have hright := fieldAt_append_right (le n v) (le n w) n n (le_length n v).le
    rwa [le_length, Nat.sub_self] at hright
  exact ⟨hfirst.trans (Nat.mod_eq_of_lt hv), hsecond.trans (number_le n w hw)⟩

/-! ### The lowest free entry (R118) -/

theorem freeEntry_full {holds : Vector (Option Hold) 8} (h : ∀ e : Fin 8, holds[e] ≠ none) :
    freeEntry holds = none := by
  refine List.find?_eq_none.2 fun e _ => ?_
  rw [Option.isNone_iff_eq_none]
  exact h e

theorem freeEntry_lowest {holds : Vector (Option Hold) 8} {e : Fin 8} (he : holds[e] = none)
    (hd : ∀ d : Fin 8, d < e → holds[d] ≠ none) : freeEntry holds = some e := by
  refine List.find?_eq_some_iff_getElem.2 ⟨Option.isNone_iff_eq_none.2 he, e, by simp, by simp, fun j hj => ?_⟩
  have hj' := hd ⟨j, by omega⟩ hj
  simpa [Option.isSome_iff_ne_none] using hj'

theorem freeEntry_isFree {holds : Vector (Option Hold) 8} {e : Fin 8} (h : freeEntry holds = some e) :
    holds[e] = none :=
  Option.isNone_iff_eq_none.1 (List.find?_some (p := fun i : Fin 8 => holds[i].isNone) h)

/-! ### PLACE_HOLD (R118) -/

/-- The ring stores every Block of a span. -/
def Ring.stores (r : Ring) (first last : Nat) : Prop :=
  r.blocks ≠ [] ∧ r.oldest ≤ first ∧ first ≤ last ∧ last < r.next

/-- The state with a Hold placed in an entry (R118). -/
def State.holding (s : State) (p : Port) (first last : Nat) (e : Fin 8) : State :=
  { s with ring := { s.ring with
    holds := s.ring.holds.set e (some ⟨p, s.settings.guarded.retention.get p, first, last⟩)
    lastPlaced := s.ring.lastPlaced.set p (some e) } }

section
variable (s : State) (p : Port) {first last : Nat}

theorem State.placeHold_range (h : ¬s.ring.stores first last) : s.placeHold p first last = (.range, s) :=
  if_pos (by rwa [Ring.stores, not_and_or, not_not] at h)

theorem State.placeHold_stored (h : s.ring.stores first last) : s.placeHold p first last =
    if last - first + 1 > 6144 then (.holdSpan, s)
    else match freeEntry s.ring.holds with
      | none => (.holdFull, s)
      | some e => (.ok, s.holding p first last e) := by
  refine (if_neg ?_).trans rfl
  rw [not_or, not_not]
  exact h

end

/-! ### DROP_HOLD (R119) -/

/-- The state with an entry of the Hold Table freed, before the re-count (R119). -/
def State.dropping (s : State) (e : Fin 8) : State := { s with ring := s.ring.withHolds (s.ring.holds.set e none) }

section
variable (s : State) (p : Port)

theorem State.dropHold_range {entry : Nat} (h : 7 < entry) : s.dropHold p entry = (.range, s) :=
  dif_neg (by omega)

theorem State.dropHold_free {e : Fin 8} (h : s.ring.holds[e] = none) : s.dropHold p e = (.range, s) := by
  have he : s.ring.holds[(e : Nat)] = none := h
  simp [State.dropHold, he]

theorem State.dropHold_held {e : Fin 8} {x : Hold} (h : s.ring.holds[e] = some x) : s.dropHold p e =
    if x.owner = p then (.ok, (s.dropping e).drainGap) else (.range, s) := by
  have he : s.ring.holds[(e : Nat)] = some x := h
  simp [State.dropHold, he, State.dropping]

end

/-- A freed entry is nobody's last-placed one (R117). -/
theorem lastPlacedAfter_freed (holds : Vector (Option Hold) 8) (e : Fin 8) :
    lastPlacedAfter (holds.set e none) (some e) = none := by
  simp [lastPlacedAfter_some]

/-- The freeing of one entry leaves another that is a port's last-placed one (R117). -/
theorem lastPlacedAfter_kept {r : Ring} (hwf : r.lastPlacedWf) {p : Port} {e : Fin 8}
    (h : r.lastPlaced.get p ≠ some e) :
    lastPlacedAfter (r.holds.set e none) (r.lastPlaced.get p) = r.lastPlaced.get p := by
  cases hp : r.lastPlaced.get p with
  | none => rfl
  | some d =>
    obtain ⟨x, hx, _⟩ := hwf p d hp
    have hne : (e : Nat) ≠ d := fun hed => h (hp.trans (congrArg some (Fin.ext hed.symm)))
    have hx' : r.holds[(d : Nat)] = some x := hx
    rw [lastPlacedAfter_some]
    simp [hne, hx']

/-- Another port's last-placed entry is not one of this port's. -/
theorem Ring.lastPlacedWf.ne_of_owner {r : Ring} (hwf : r.lastPlacedWf) {q : Port} {e : Fin 8} {x : Hold}
    (hx : r.holds[e] = some x) (ho : x.owner ≠ q) : r.lastPlaced.get q ≠ some e := fun hq => by
  obtain ⟨y, hy, rfl⟩ := hwf q e hq
  exact ho (by rw [Option.some.inj (hx.symm.trans hy)])

/-- Settles O21: the tests by the branches of `State.placeHold` and `State.dropHold`, the entry by
`freeEntry_lowest`, the last-placed entries by `lastPlacedAfter_freed` and `lastPlacedAfter_kept`. -/
theorem placeAndDropHolds : Obligations.PlaceAndDropHolds := by
  unfold Obligations.PlaceAndDropHolds
  refine ⟨?_, ?_⟩
  · intro p f first last s htakes hfirst hlast hhears fits
    obtain ⟨hread, hread'⟩ := number_le_le 4 first last hfirst hlast
    have hanswer : ∀ {r t}, (s.shifted p f).placeHold p first last = (r, t) →
        exec (.placeHold p f) s = .next (t.setResult p r) := fun h => by
      refine (exec_placeHold p f s).trans (congrArg _ (s.writeFrame_answers p f
        (act := fun t bs => t.placeHold p (number bs 0 4) (number bs 4 4)) htakes hhears ?_))
      rwa [hread, hread']
    have hstored : fits → _ := (s.shifted p f).placeHold_stored p (first := first) (last := last)
    refine ⟨fun hn => hanswer ((s.shifted p f).placeHold_range p hn),
      fun h hspan => hanswer ((hstored h).trans (if_pos hspan)), fun h hspan hfull => ?_, fun e h hspan he hd => ?_⟩
    · have hentry : freeEntry (s.shifted p f).ring.holds = none := freeEntry_full hfull
      refine hanswer ((hstored h).trans ((if_neg hspan.not_gt).trans ?_))
      rw [hentry]
    · have hentry : freeEntry (s.shifted p f).ring.holds = some e := freeEntry_lowest he hd
      refine hanswer (t := (s.shifted p f).holding p first last e) ((hstored h).trans ((if_neg hspan.not_gt).trans ?_))
      rw [hentry]
  · intro p f c s htakes hhears
    have hanswer : ∀ {r t}, (s.shifted p f).dropHold p c.toNat = (r, t) →
        exec (.dropHold p f) s = .next (t.setResult p r) := fun h =>
      (exec_dropHold p f s).trans (congrArg _ (s.writeFrame_answers p f htakes hhears h))
    refine ⟨fun hc => hanswer ((s.shifted p f).dropHold_range p hc), fun e hc => ?_⟩
    rw [hc] at hanswer
    refine ⟨fun he => hanswer ((s.shifted p f).dropHold_free p he), fun x hx => ?_⟩
    have hheld := (s.shifted p f).dropHold_held p hx
    refine ⟨fun ho => hanswer (hheld.trans (if_neg ho)), fun ho =>
      ⟨(s.shifted p f).dropping e, hanswer (hheld.trans (if_pos ho)), rfl, fun hp => ?_, fun hwf => ?_⟩⟩
    all_goals
      have hafter : ∀ q, ((s.shifted p f).dropping e).ring.lastPlaced.get q =
          lastPlacedAfter (s.ring.holds.set e none) (s.ring.lastPlaced.get q) := Both.get_map s.ring.lastPlaced _
    · rw [hafter, hp]
      exact lastPlacedAfter_freed _ e
    · have hother : x.owner ≠ otherPort p := by
        rw [ho]
        cases p <;> decide
      exact ⟨fun hp => (hafter p).trans (lastPlacedAfter_kept hwf hp),
        (hafter _).trans (lastPlacedAfter_kept hwf (hwf.ne_of_owner hx hother))⟩

end Sys2Proof.Machine
end

section
/-! The record: what its invariant says of the ring, the Mark List, the Readers and the Hold Table, and what a freeing
and a storing keep of it (R103, R117, R125, R152). -/

namespace Sys2Proof.Machine

/-! ### Consecutive runs (R103, R152) -/

/-- The numbers are one consecutive run that ends before `next`. -/
def IsRun (xs : List Nat) (next : Nat) : Prop :=
  xs.length ≤ next ∧ xs = List.range' (next - xs.length) xs.length

theorem IsRun.tail {xs : List Nat} {next : Nat} (h : IsRun xs next) : IsRun xs.tail next := by
  obtain ⟨hlen, heq⟩ := h
  rw [IsRun, List.length_tail]
  refine ⟨by omega, ?_⟩
  conv_lhs => rw [heq]
  rw [List.tail_range']
  cases xs with
  | nil => rfl
  | cons x xs =>
    rw [List.length_cons] at hlen ⊢
    congr 1
    omega

theorem IsRun.concat {xs : List Nat} {next : Nat} (h : IsRun xs next) : IsRun (xs ++ [next]) (next + 1) := by
  obtain ⟨hlen, heq⟩ := h
  rw [IsRun, List.length_append, List.length_singleton, Nat.add_sub_add_right, List.range'_concat, ← heq]
  exact ⟨by omega, by congr 2; omega⟩

theorem Ring.wf_iff (r : Ring) : r.wf ↔ r.blocks.length ≤ 8192 ∧ IsRun (r.blocks.map Block.sequence) r.next := by
  rw [IsRun, List.length_map]
  exact Iff.rfl

theorem MarkList.wf_iff (m : MarkList) : m.wf ↔ m.marks.length ≤ 1024 ∧ IsRun (m.marks.map Mark.serial) m.next := by
  rw [IsRun, List.length_map]
  exact Iff.rfl

/-! ### Readers and Holds within the record (R117, R125) -/

/-- An attached Reader has a retention snapshot and its cursors lie in the record (R125). -/
def State.cursorsWf (s : State) (x : Reader) : Prop :=
  x.retention.isSome ∧ s.ring.oldest ≤ x.release ∧ x.release ≤ x.read ∧ x.read ≤ s.ring.next ∧
    s.marks.oldest ≤ x.mark ∧ x.mark ≤ s.marks.next

/-- A transfer that has lost nothing delivers what the cursor names (R134, R142). -/
def State.delivers (s : State) (x : Reader) (t : Transfer) : Prop :=
  (∀ q, t.delivery = .block q → x.read = q ∧ q < s.ring.next) ∧
    ∀ first count, t.delivery = .marks first count →
      count = 0 ∨ (x.mark = first ∧ first + count ≤ s.marks.next)

theorem State.readerWf_iff (s : State) (x : Reader) : s.readerWf x ↔
    (x.attached = true → s.cursorsWf x) ∧
      ∀ t, x.flight = some t → x.attached = true ∧ (t.overtaken = none → s.delivers x t) := by
  refine and_congr Iff.rfl (forall_congr' fun t => imp_congr Iff.rfl (and_congr Iff.rfl (imp_congr Iff.rfl ?_)))
  unfold State.delivers
  cases t.delivery <;> simp

theorem State.holdWf_iff (s : State) (e : Option Hold) : s.holdWf e ↔ ∀ h, e = some h →
    s.ring.oldest ≤ h.first ∧ h.first ≤ h.last ∧ h.last < s.ring.next ∧ h.last - h.first + 1 ≤ 6144 := by
  cases e <;> simp [State.holdWf]

theorem State.recordWf_iff (s : State) : s.recordWf ↔ s.ring.wf ∧ s.marks.wf ∧
    (∀ p, s.readerWf (s.readers.get p)) ∧ (∀ e : Fin 8, s.holdWf s.ring.holds[e]) ∧ s.ring.lastPlacedWf := by
  refine and_congr Iff.rfl (and_congr Iff.rfl ⟨?_, ?_⟩)
  · rintro ⟨ha, hb, h⟩
    exact ⟨fun p => by cases p <;> [exact ha; exact hb], h⟩
  · rintro ⟨hr, h⟩
    exact ⟨hr .a, hr .b, h⟩

section
variable {s t : State} {x y : Reader}

/-- A Reader that is not attached and has nothing in flight claims nothing. -/
theorem State.readerWf_detached (ha : x.attached = false) (hf : x.flight = none) : s.readerWf x := by
  rw [State.readerWf_iff, ha, hf]
  exact ⟨nofun, nofun⟩

/-- A Reader with nothing in flight needs its cursors in the record. -/
theorem State.readerWf_settled (hc : s.cursorsWf x) (hf : x.flight = none) : s.readerWf x := by
  rw [State.readerWf_iff, hf]
  exact ⟨fun _ => hc, nofun⟩

theorem State.readerWf.cursors (h : s.readerWf x) (ha : x.attached = true) : s.cursorsWf x :=
  ((s.readerWf_iff x).1 h).1 ha

theorem State.readerWf.noFlight (h : s.readerWf x) (ha : ¬x.attached = true) : x.flight = none := by
  cases hf : x.flight with
  | none => rfl
  | some t => exact absurd (((s.readerWf_iff x).1 h).2 t hf).1 ha

/-- The parts of a Reader that the record's invariant looks at. -/
def Reader.claims (x : Reader) : Bool × Option Retention × Nat × Nat × Nat × Option Transfer :=
  (x.attached, x.retention, x.release, x.read, x.mark, x.flight)

theorem State.readerWf.congr (h : s.readerWf x) (he : y.claims = x.claims) : s.readerWf y := by
  simp only [Reader.claims, Prod.mk.injEq] at he
  obtain ⟨hattached, hretention, hrelease, hread, hmark, hflight⟩ := he
  rw [State.readerWf_iff] at h ⊢
  unfold State.cursorsWf State.delivers at h ⊢
  rwa [hattached, hretention, hrelease, hread, hmark, hflight]

/-- The record may grow at its new end. -/
theorem State.readerWf.grow (h : s.readerWf x) (ho : t.ring.oldest = s.ring.oldest)
    (hn : s.ring.next ≤ t.ring.next) (hmo : t.marks.oldest = s.marks.oldest) (hmn : s.marks.next ≤ t.marks.next) :
    t.readerWf x := by
  obtain ⟨hcursors, hflight⟩ := (s.readerWf_iff x).1 h
  refine (t.readerWf_iff x).2 ⟨fun ha => ?_, fun f hf => ⟨(hflight f hf).1, fun hlive => ?_⟩⟩
  · obtain ⟨hret, hrel, hread, hnext, hmark, hmnext⟩ := hcursors ha
    exact ⟨hret, ho ▸ hrel, hread, hnext.trans hn, hmo ▸ hmark, hmnext.trans hmn⟩
  · obtain ⟨hblock, hmarks⟩ := (hflight f hf).2 hlive
    exact ⟨fun q hq => ⟨(hblock q hq).1, (hblock q hq).2.trans_le hn⟩,
      fun first count hd => (hmarks first count hd).imp_right fun ⟨hm, hl⟩ => ⟨hm, hl.trans hmn⟩⟩

theorem State.holdWf.grow {e : Option Hold} (h : s.holdWf e) (ho : t.ring.oldest = s.ring.oldest)
    (hn : s.ring.next ≤ t.ring.next) : t.holdWf e := by
  refine (t.holdWf_iff e).2 fun x hx => ?_
  obtain ⟨hfirst, hspan, hlast, hlong⟩ := (s.holdWf_iff e).1 h x hx
  exact ⟨ho ▸ hfirst, hspan, hlast.trans_le hn, hlong⟩

/-- The parts of the state that make the record. -/
def State.record (s : State) : List Block × Nat × Vector (Option Hold) 8 × Both (Option (Fin 8)) × List Mark × Nat ×
    Both Reader :=
  (s.ring.blocks, s.ring.next, s.ring.holds, s.ring.lastPlaced, s.marks.marks, s.marks.next, s.readers)

theorem State.recordWf.congr (h : s.recordWf) (he : t.record = s.record) : t.recordWf := by
  simp only [State.record, Prod.mk.injEq] at he
  obtain ⟨hblocks, hnext, hholds, hlast, hmarks, hserial, hreaders⟩ := he
  simpa only [State.recordWf, State.readerWf_iff, State.holdWf_iff, State.cursorsWf, State.delivers, Ring.wf,
    MarkList.wf, Ring.lastPlacedWf, Ring.oldest, MarkList.oldest, hblocks, hnext, hholds, hlast, hmarks, hserial,
    hreaders] using h

theorem State.recordWf.same (h : s.recordWf) (hr : t.ring = s.ring) (hm : t.marks = s.marks)
    (hx : t.readers = s.readers) : t.recordWf :=
  h.congr (by rw [State.record, State.record, hr, hm, hx])

theorem State.recordWf.raiseBoth (h : s.recordWf) (e : Event) : (s.raiseBoth e).recordWf := h.congr rfl

theorem State.recordWf.ite {c : Prop} [Decidable c] (ht : t.recordWf) (hs : s.recordWf) :
    (if c then t else s).recordWf := iteInduction (fun _ => ht) fun _ => hs

/-- Both answers of a command keep the record. -/
theorem State.recordWf.answered {c : Prop} [Decidable c] {a b : Result × State} (ha : a.2.recordWf)
    (hb : b.2.recordWf) : (if c then a else b).2.recordWf :=
  iteInduction (motive := fun z : Result × State => z.2.recordWf) (fun _ => ha) fun _ => hb

theorem State.recordWf.reader (h : s.recordWf) (p : Port) : s.readerWf (s.readers.get p) :=
  ((s.recordWf_iff).1 h).2.2.1 p

theorem State.recordWf.setReader (h : s.recordWf) (p : Port) (hx : s.readerWf x) : (s.setReader p x).recordWf := by
  obtain ⟨hring, hmarks, hreaders, hholds, hlast⟩ := s.recordWf_iff.1 h
  refine (State.recordWf_iff _).2 ⟨hring, hmarks, fun q => ?_, hholds, hlast⟩
  have hsame : ∀ y, s.readerWf y → (s.setReader p x).readerWf y := fun _ hy => hy
  rw [State.setReader_readers]
  obtain rfl | rfl := otherPort_cases p q
  · rw [Both.get_set]
    exact hsame _ hx
  · rw [Both.get_set_other]
    exact hsame _ (hreaders _)

/-- An empty record with Readers that claim nothing of it. -/
theorem State.recordWf_empty (hr : s.ring = startRing) (hm : s.marks = startMarks)
    (hx : ∀ p, s.readerWf (s.readers.get p)) : s.recordWf := by
  refine s.recordWf_iff.2 ⟨?_, ?_, hx, fun e => ?_, fun p e hp => ?_⟩
  · rw [hr]
    exact ⟨by decide, by decide, rfl⟩
  · rw [hm]
    exact ⟨by decide, by decide, rfl⟩
  · have hnone : s.ring.holds[e] = none := by
      rw [hr]
      exact Vector.getElem_replicate e.isLt
    rw [hnone]
    trivial
  · rw [hr] at hp
    cases p <;> cases hp

end

end Sys2Proof.Machine
end

section
/-! The ring and the Mark List stay in agreement with their Readers and Holds through every evaluation, freeing and
storing that retention permits (R103 to R109, R152, R157 to R161). -/

namespace Sys2Proof.Machine

/-! ### Evaluating a Reader's flags (R129) -/

theorem Reader.evaluated_claims (x : Reader) (n : Nat) : (x.evaluated n).claims = x.claims := by
  have hattached : (x.evaluated n).attached = x.attached := by
    unfold Reader.evaluated Reader.attached
    cases hs : x.state <;> cases (x.flagsAt n).half <;> rfl
  unfold Reader.claims
  rw [hattached]
  rfl

theorem State.evaluate_record (s : State) (p : Port) :
    (s.evaluate p).record = (s.setReader p ((s.readers.get p).evaluated s.ring.next)).record := by
  unfold State.evaluate
  dsimp only
  split <;> split <;> rfl

theorem State.evaluate_reader (s : State) (p q : Port) :
    ((s.evaluate p).readers.get q).claims = (s.readers.get q).claims := by
  have hreaders : (s.evaluate p).readers = s.readers.set p ((s.readers.get p).evaluated s.ring.next) :=
    congrArg (fun x => x.2.2.2.2.2.2) (s.evaluate_record p)
  rw [hreaders]
  obtain rfl | rfl := otherPort_cases p q
  · rw [Both.get_set, Reader.evaluated_claims]
  · rw [Both.get_set_other]

section
variable {s t : State}

theorem State.recordWf.evaluate (h : s.recordWf) (p : Port) : (s.evaluate p).recordWf :=
  (h.setReader p ((h.reader p).congr (Reader.evaluated_claims _ _))).congr (s.evaluate_record p)

theorem State.recordWf.evaluateBoth (h : s.recordWf) : s.evaluateBoth.recordWf := (h.evaluate .a).evaluate .b

/-- A Reader with other fields than its claims, evaluated. -/
theorem State.recordWf.setEvaluated (h : s.recordWf) (p : Port) {x : Reader} (hx : s.readerWf x) :
    ((s.setReader p x).evaluate p).recordWf := (h.setReader p hx).evaluate p

/-! ### The freeing of the Oldest Block (R103, R107 to R109) -/

/-- No attached BINDING Reader claims a Sequence that retention does not keep (R105). -/
theorem State.release_of_not_kept {q : Nat} (hk : ¬s.slotKept q) (p : Port)
    (ha : (s.readers.get p).attached = true) (hb : (s.readers.get p).retention = some .binding) :
    q < (s.readers.get p).release :=
  Nat.lt_of_not_ge fun hq => hk (.inl ⟨p, (Reader.attached_iff _).1 ha, hb, hq⟩)

theorem Reader.attached_yields {x : Reader} (ha : x.attached = true) (hr : x.retention.isSome)
    (hb : x.retention ≠ some .binding) : x.yields = true := by
  refine x.yields_iff.2 ⟨x.attached_iff.1 ha, ?_⟩
  obtain ⟨c, hc⟩ := Option.isSome_iff_exists.1 hr
  cases c
  · exact absurd hc hb
  · exact hc

theorem Reader.afterFreeing_attached (x : Reader) (q : Nat) : (x.afterFreeing q).attached = x.attached := by
  by_cases hy : x.yields = true ∧ x.release ≤ q
  · have ha : x.attached = true := (Bool.and_eq_true_iff.1 hy.1).1
    obtain hr | hr := Nat.lt_or_ge q x.read
    · rw [x.afterFreeing_read q hy hr]
      rfl
    · rw [x.afterFreeing_unread q hy hr, ha]
      rfl
  · rw [x.afterFreeing_other q hy]
    rfl

/-- A freed Block's transfer is overtaken; any other that has lost nothing is as before (R109). -/
theorem Transfer.freedBlock_lossless {t : Transfer} {q : Nat} (h : (t.freedBlock q).overtaken = none) :
    t.freedBlock q = t ∧ t.overtaken = none ∧ t.delivery ≠ .block q := by
  unfold Transfer.freedBlock at h ⊢
  split at h
  · cases h
  · rename_i hn
    rw [if_neg hn]
    exact ⟨rfl, h, fun hd => hn ⟨hd, h⟩⟩

/-- An attached Reader's claim begins after the freed Block, and its Read Cursor stands where it stood, or stood at
the freed Block (R107). -/
theorem Reader.afterFreeing_past {x : Reader} {q next : Nat} (ha : x.attached = true) (hr : x.retention.isSome)
    (hb : x.retention = some .binding → q < x.release) (hq : q ≤ x.release) (hread : x.release ≤ x.read)
    (hn : x.read ≤ next) (hlt : q < next) :
    let y := x.afterFreeing q
    q + 1 ≤ y.release ∧ y.release ≤ y.read ∧ y.read ≤ next ∧ y.mark = x.mark ∧ y.retention = x.retention ∧
      (y.read = x.read ∨ x.read = q) := by
  intro y
  by_cases hreach : x.yields = true ∧ x.release ≤ q
  · obtain hx | hx := Nat.lt_or_ge q x.read
    · rw [show y = _ from x.afterFreeing_read q hreach hx]
      exact ⟨le_rfl, hx, hn, rfl, rfl, .inl rfl⟩
    · rw [show y = _ from x.afterFreeing_unread q hreach hx]
      exact ⟨le_rfl, le_rfl, hlt, rfl, rfl, .inr (by omega)⟩
  · rw [show y = _ from x.afterFreeing_other q hreach]
    have hpast : q < x.release := by
      by_cases hbind : x.retention = some .binding
      · exact hb hbind
      · exact Nat.lt_of_not_ge fun hle => hreach ⟨Reader.attached_yields ha hr hbind, hle⟩
    exact ⟨hpast, hread, hn, rfl, rfl, .inl rfl⟩

/-- The record shortened at its old end keeps a Reader that the freeing has moved on (R107). -/
theorem State.readerWf.afterFreeing {x : Reader} (h : s.readerWf x) (ho : t.ring.oldest = s.ring.oldest + 1)
    (hlt : s.ring.oldest < s.ring.next) (hn : t.ring.next = s.ring.next) (hm : t.marks = s.marks)
    (hb : x.attached = true → x.retention = some .binding → s.ring.oldest < x.release) :
    t.readerWf (x.afterFreeing s.ring.oldest) := by
  obtain ⟨hcursors, hflight⟩ := (s.readerWf_iff x).1 h
  rw [State.readerWf_iff, x.afterFreeing_attached]
  have hpast : x.attached = true → _ := fun ha =>
    have ⟨hret, hrel, hread, hnext, _, _⟩ := hcursors ha
    Reader.afterFreeing_past ha hret (hb ha) hrel hread hnext hlt
  refine ⟨fun ha => ?_, fun f hf => ?_⟩
  · obtain ⟨hret, _, _, _, hmark, hmnext⟩ := hcursors ha
    obtain ⟨hrel', hread', hnext', hmark', hret', _⟩ := hpast ha
    rw [State.cursorsWf, ho, hn, hm, hmark', hret']
    exact ⟨hret, hrel', hread', hnext', hmark, hmnext⟩
  · rw [x.afterFreeing_flight] at hf
    obtain ⟨f', hf', rfl⟩ := Option.map_eq_some_iff.1 hf
    obtain ⟨ha, hdelivers⟩ := hflight f' hf'
    refine ⟨ha, fun hlossless => ?_⟩
    obtain ⟨hsame, hlive, hother⟩ := Transfer.freedBlock_lossless hlossless
    obtain ⟨hblock, hmarks⟩ := hdelivers hlive
    obtain ⟨_, _, _, hmark', _, hread'⟩ := hpast ha
    rw [hsame, State.delivers, hn, hm, hmark']
    refine ⟨fun q hq => ⟨?_, (hblock q hq).2⟩, hmarks⟩
    obtain hsameRead | hatFreed := hread'
    · rw [hsameRead]
      exact (hblock q hq).1
    · exact absurd (by rw [hq, ← (hblock q hq).1, hatFreed]) hother

theorem Ring.oldest_freed (r : Ring) (h : r.wf) (hne : 0 < r.blocks.length) (g : Ring) (hb : g.blocks = r.blocks.tail)
    (hn : g.next = r.next) : g.wf ∧ g.oldest = r.oldest + 1 := by
  obtain ⟨hlen, hrun⟩ := r.wf_iff.1 h
  have hle := hrun.1
  rw [List.length_map] at hle
  refine ⟨g.wf_iff.2 ⟨?_, ?_⟩, ?_⟩
  · rw [hb, List.length_tail]
    omega
  · rw [hb, hn, List.map_tail]
    exact hrun.tail
  · rw [Ring.oldest, Ring.oldest, hb, hn, List.length_tail]
    omega

/-- A Hold that a permitted freeing leaves lies in what is left of the ring (R105, R108). -/
theorem State.holdWf.trimHold {e : Option Hold} (h : s.holdWf e) (ho : t.ring.oldest = s.ring.oldest + 1)
    (hn : t.ring.next = s.ring.next)
    (hb : ∀ x, e = some x → x.cls = .binding → ¬(x.first ≤ s.ring.oldest ∧ s.ring.oldest ≤ x.last)) :
    t.holdWf (trimHold s.ring.oldest e) := by
  refine (t.holdWf_iff _).2 fun x hx => ?_
  obtain ⟨g, hg, _, _, hlast, hcase⟩ := trimHold_eq_some hx
  obtain ⟨hfirst, hspan, hend, hlong⟩ := (s.holdWf_iff e).1 h g hg
  obtain ⟨rfl, hother⟩ | ⟨hcut, hfirst', hrest⟩ := hcase
  · have hpast : s.ring.oldest < x.first := by
      cases hc : x.cls with
      | binding =>
        have hfree := hb x hg hc
        omega
      | yielding =>
        have hne : x.first ≠ s.ring.oldest := fun hf => hother ⟨hc, hf⟩
        omega
    omega
  · omega

/-- A port's last-placed entry is NONE once its Hold is gone, and still the port's while it lasts (R117). -/
theorem Ring.lastPlacedWf.after {r g : Ring} (h : r.lastPlacedWf)
    (hp : ∀ p, g.lastPlaced.get p = lastPlacedAfter g.holds (r.lastPlaced.get p))
    (hh : ∀ (e : Fin 8) x, g.holds[e] = some x → ∃ y, r.holds[e] = some y ∧ x.owner = y.owner) :
    g.lastPlacedWf := by
  intro p e he
  rw [hp p] at he
  cases hr : r.lastPlaced.get p with
  | none =>
    rw [hr] at he
    cases he
  | some d =>
    rw [hr, lastPlacedAfter_some] at he
    split at he
    · cases he
    · rename_i hsome
      cases he
      obtain ⟨x, hx⟩ := Option.ne_none_iff_exists'.1 hsome
      obtain ⟨y, hy, ho⟩ := hh e x hx
      obtain ⟨z, hz, hzo⟩ := h p e hr
      rw [hy] at hz
      cases hz
      exact ⟨x, hx, ho.trans hzo⟩

/-- A freeing that retention permits keeps the record (R103, R105). -/
theorem State.recordWf.freeOldest (h : s.recordWf) (hne : 0 < s.ring.blocks.length)
    (hk : ¬s.slotKept s.ring.oldest) : s.freeOldest.recordWf := by
  obtain ⟨hring, hmarks, hreaders, hholds, hlast⟩ := s.recordWf_iff.1 h
  obtain ⟨r, e, g, heq, hblocks, hnext, _⟩ := s.freeOldest_keeps
  have hg : s.freeOldest.ring = g := congrArg State.ring heq
  have hm : s.freeOldest.marks = s.marks := by rw [heq]
  rw [← hg] at hblocks hnext
  obtain ⟨hwf, ho⟩ := Ring.oldest_freed s.ring hring hne _ hblocks hnext
  have hlt : s.ring.oldest < s.ring.next := by
    have hle := hring.2.1
    rw [Ring.oldest]
    omega
  refine s.freeOldest.recordWf_iff.2 ⟨hwf, hm ▸ hmarks, fun p => ?_, fun e => ?_, ?_⟩
  · rw [s.freeOldest_reader]
    exact (hreaders p).afterFreeing ho hlt hnext hm (State.release_of_not_kept hk p)
  · rw [s.freeOldest_hold]
    exact (hholds e).trimHold ho hnext fun x hx hc hcover => hk (.inr ⟨e, x, hx, hc, hcover⟩)
  · refine hlast.after s.freeOldest_lastPlaced fun e x hx => ?_
    rw [s.freeOldest_hold] at hx
    obtain ⟨y, hy, ho, _⟩ := trimHold_eq_some hx
    exact ⟨y, hy, ho⟩

/-! ### The storing of a Block (R103, R111 to R115) -/

theorem Ring.append_wf (r : Ring) (b : Block) (h : r.wf) (hl : r.blocks.length < 8192) :
    (r.append b).wf ∧ (r.append b).oldest = r.oldest := by
  obtain ⟨_, hrun⟩ := r.wf_iff.1 h
  refine ⟨(r.append b).wf_iff.2 ⟨?_, ?_⟩, ?_⟩
  · rw [Ring.append, List.length_append, List.length_singleton]
    exact hl
  · rw [Ring.append, List.map_append]
    exact hrun.concat
  · rw [Ring.oldest, Ring.append, List.length_append, List.length_singleton, Ring.oldest, Nat.add_sub_add_right]

theorem State.recordWf.append (h : s.recordWf) (b : Block) (hl : s.ring.blocks.length < 8192) :
    State.recordWf { s with ring := s.ring.append b } := by
  obtain ⟨hring, hmarks, hreaders, hholds, hlast⟩ := s.recordWf_iff.1 h
  obtain ⟨hwf, ho⟩ := s.ring.append_wf b hring hl
  exact (State.recordWf_iff _).2 ⟨hwf, hmarks, fun p => (hreaders p).grow ho (Nat.le_succ _) rfl le_rfl,
    fun e => (hholds e).grow ho (Nat.le_succ _), hlast⟩

/-- A storing keeps the record where retention permits the freeing that it may need (R103, R105). -/
theorem State.recordWf.storeBlock (h : s.recordWf) (b : Block)
    (hk : s.ring.blocks.length = 8192 → ¬s.slotKept s.ring.oldest) : (s.storeBlock b).recordWf := by
  have hlen := ((s.recordWf_iff).1 h).1.1
  unfold State.storeBlock
  dsimp only
  split
  · rename_i hfull
    have hfreed := h.freeOldest (by omega) (hk (by omega))
    obtain ⟨r, e, g, heq, hblocks, _⟩ := s.freeOldest_keeps
    have hshort : s.freeOldest.ring.blocks.length < 8192 := by
      rw [show s.freeOldest.ring = g from congrArg State.ring heq, hblocks, List.length_tail]
      omega
    exact (hfreed.append b hshort).evaluateBoth
  · exact (h.append b (by omega)).evaluateBoth

/-! ### Two storings at one boundary (R106, R113) -/

theorem Reader.keeps_iff (x : Reader) (q : Nat) : x.keeps q = true ↔
    x.state ≠ .detached ∧ x.retention = some .binding ∧ x.release ≤ q := by
  rw [Reader.keeps, Bool.and_eq_true, Reader.binds_iff, decide_eq_true_iff, and_assoc]

theorem Reader.keeps_congr {x y : Reader} (q : Nat) (h : y.claims = x.claims) : y.keeps q = x.keeps q := by
  simp only [Reader.claims, Prod.mk.injEq] at h
  obtain ⟨hattached, hretention, hrelease, _⟩ := h
  unfold Reader.keeps Reader.binds
  rw [hattached, hretention, hrelease]

/-- A freeing moves no BINDING Reader (R107). -/
theorem Reader.keeps_afterFreeing {x : Reader} {q r : Nat} (h : (x.afterFreeing r).keeps q = true) :
    x.keeps q = true := by
  by_cases hreach : x.yields = true ∧ x.release ≤ r
  · obtain ⟨_, hb, _⟩ := (Reader.keeps_iff _ q).1 h
    obtain ⟨_, hy⟩ := x.yields_iff.1 hreach.1
    have hsame : (x.afterFreeing r).retention = x.retention := by
      obtain hx | hx := Nat.lt_or_ge r x.read
      · rw [x.afterFreeing_read r hreach hx]
        rfl
      · rw [x.afterFreeing_unread r hreach hx]
        rfl
    rw [hsame, hy] at hb
    cases hb
  · rw [x.afterFreeing_other r hreach] at h
    exact h

/-- What retention keeps hangs on the Readers that keep it and on the BINDING Holds (R105). -/
theorem State.slotKept.mono {q : Nat} (h : t.slotKept q)
    (hr : ∀ p, (t.readers.get p).keeps q = true → (s.readers.get p).keeps q = true)
    (hh : ∀ (e : Fin 8) x, t.ring.holds[e] = some x → x.cls = .binding → s.ring.holds[e] = some x) :
    s.slotKept q := by
  obtain ⟨p, hp⟩ | ⟨e, x, hx, hc, hcover⟩ := h
  · exact .inl ⟨p, (Reader.keeps_iff _ q).1 (hr p ((Reader.keeps_iff _ q).2 hp))⟩
  · exact .inr ⟨e, x, hh e x hx hc, hc, hcover⟩

theorem State.slotKept_freeOldest {q : Nat} (h : s.freeOldest.slotKept q) : s.slotKept q := by
  refine h.mono (fun p hp => ?_) fun e x hx hc => ?_
  · rw [s.freeOldest_reader] at hp
    exact Reader.keeps_afterFreeing hp
  · rw [s.freeOldest_hold] at hx
    obtain ⟨g, hg, _, hcls, _, ⟨rfl, _⟩ | ⟨⟨hy, _⟩, _⟩⟩ := trimHold_eq_some hx
    · exact hg
    · rw [hcls, hy] at hc
      cases hc

theorem State.slotKept_evaluate {q : Nat} {p : Port} (h : (s.evaluate p).slotKept q) : s.slotKept q := by
  refine h.mono (fun r hr => ?_) fun e x hx _ => ?_
  · rwa [Reader.keeps_congr q (s.evaluate_reader p r)] at hr
  · obtain ⟨r, e', heq⟩ := s.evaluate_keeps p
    rwa [heq] at hx

/-- A storing makes retention keep nothing more (R105). -/
theorem State.slotKept_storeBlock {b : Block} {q : Nat} (h : (s.storeBlock b).slotKept q) : s.slotKept q := by
  unfold State.storeBlock at h
  dsimp only at h
  generalize hu : (if s.ring.blocks.length ≥ 8192 then s.freeOldest else s) = u at h
  have happended := State.slotKept_evaluate (State.slotKept_evaluate h)
  have hfreed : u.slotKept q := happended
  rw [← hu] at hfreed
  split at hfreed
  · exact State.slotKept_freeOldest hfreed
  · exact hfreed

theorem State.slotKept_storeGap {g : PendingGap} {q : Nat} (h : (s.storeGap g).slotKept q) : s.slotKept q := by
  unfold State.storeGap at h
  dsimp only at h
  generalize hu : s.storeBlock (s.gapBlock g) = u at h
  have hstored : u.slotKept q := h
  rw [← hu] at hstored
  exact State.slotKept_storeBlock hstored

/-- With a Slot to be had, a freeing that the storing needs is permitted (R106). -/
theorem State.not_slotKept_of_slots (hs : 1 ≤ s.obtainableSlots) (hfull : s.ring.blocks.length = 8192) :
    ¬s.slotKept s.ring.oldest := fun hk => by
  have hzero := (s.obtainableSlots_zero_iff hfull.le).2 ⟨hfull, hk⟩
  omega

/-- With two Slots to be had, so is the freeing that a second storing needs (R106, R113). -/
theorem State.recordWf.not_slotKept_second (h : s.recordWf) (hs : s.obtainableSlots = 2) (g : PendingGap)
    (hfull : (s.storeGap g).ring.blocks.length = 8192) : ¬(s.storeGap g).slotKept (s.storeGap g).ring.oldest := by
  have hlen := ((s.recordWf_iff).1 h).1.1
  have hle := ((s.recordWf_iff).1 h).1.2.1
  obtain ⟨r, e, x, heq, hnext, _, hblocks⟩ := s.storeGap_keeps g
  have hx : (s.storeGap g).ring = x := by rw [heq]
  have hk : ∀ q, s.permits q = true → ¬(s.storeGap g).slotKept q := fun q hp hq =>
    (s.permits_iff q).1 hp (State.slotKept_storeGap hq)
  refine hk _ ?_
  have ho : (s.storeGap g).ring.oldest = s.ring.next + 1 - 8192 := by rw [Ring.oldest, hfull, hx, hnext]
  rw [ho]
  rw [hx, hblocks, List.length_append, List.length_singleton] at hfull
  obtain hlast | hall : s.ring.blocks.length = 8191 ∨ s.ring.blocks.length = 8192 := by
    split at hfull
    · omega
    · omega
  · rw [s.obtainableSlots_last hlast] at hs
    have hold : s.ring.oldest = s.ring.next + 1 - 8192 := by rw [Ring.oldest]; omega
    rw [← hold]
    by_contra hp
    rw [if_neg hp] at hs
    cases hs
  · rw [s.obtainableSlots_full hall] at hs
    have hold : s.ring.oldest + 1 = s.ring.next + 1 - 8192 := by rw [Ring.oldest]; omega
    rw [← hold]
    by_contra hp
    rw [if_neg hp] at hs
    split at hs <;> cases hs

theorem State.recordWf.storeGap (h : s.recordWf) (g : PendingGap) (hs : 1 ≤ s.obtainableSlots) :
    (s.storeGap g).recordWf := by
  have hstored := h.storeBlock (s.gapBlock g) (State.not_slotKept_of_slots hs)
  unfold State.storeGap
  dsimp only
  generalize s.storeBlock (s.gapBlock g) = u at hstored
  exact hstored.congr rfl

theorem State.recordWf.tryStoreGap (h : s.recordWf) : s.tryStoreGap.recordWf := by
  cases hg : s.ring.gap with
  | none =>
    rw [s.tryStoreGap_none hg]
    exact h
  | some g =>
    rw [s.tryStoreGap_some hg]
    exact iteInduction (h.storeGap g) fun _ => h

theorem State.recordWf.drainGap (h : s.recordWf) : s.drainGap.recordWf := .ite h h.tryStoreGap

theorem State.recordWf.storeRecording (h : s.recordWf) (b : Block) : (s.storeRecording b).recordWf := by
  have hjoin : (s.joinGap b).recordWf := h.congr rfl
  cases hg : s.ring.gap with
  | none =>
    rw [s.storeRecording_none b hg]
    exact iteInduction (fun hs => h.storeBlock b (State.not_slotKept_of_slots hs)) fun _ => hjoin
  | some g =>
    rw [s.storeRecording_some b hg]
    exact iteInduction (fun hs => (h.storeGap g (by omega)).storeBlock b (h.not_slotKept_second hs g)) fun _ =>
      iteInduction (fun hs => h.storeGap _ (by omega)) fun _ => hjoin

theorem State.recordWf.ringAtBoundary (h : s.recordWf) (recording : Bool) (b : Block) :
    (s.ringAtBoundary recording b).recordWf := .ite (h.storeRecording b) h.tryStoreGap

end

end Sys2Proof.Machine
end

section
/-! The Mark List stays in agreement with its Readers through every freeing and storing that retention permits, and so
through every insertion (R152, R153, R157 to R162). -/

namespace Sys2Proof.Machine

section
variable {s t : State}

/-! ### The freeing of the oldest Mark (R158) -/

theorem State.freeMark_eq (s : State) : s.freeMark = { s with
    readers := s.readers.map fun x => x.afterMarkFreeing s.marks.oldest
    events := s.freeMark.events
    marks := { s.marks with marks := s.marks.marks.tail } } := by
  unfold State.freeMark State.raiseMarkCut
  dsimp only
  split <;> split <;> rfl

theorem State.freeMark_reader (s : State) (p : Port) :
    s.freeMark.readers.get p = (s.readers.get p).afterMarkFreeing s.marks.oldest := by
  rw [s.freeMark_eq]
  exact Both.get_map _ _ p

theorem Reader.afterMarkFreeing_other (x : Reader) (serial : Nat) (h : ¬(x.yields = true ∧ x.mark ≤ serial)) :
    x.afterMarkFreeing serial = x := if_neg h

/-- A reached Reader's Mark Cursor is moved past the freed Mark (R158). -/
theorem Reader.afterMarkFreeing_reached (x : Reader) (serial : Nat) (h : x.yields = true ∧ x.mark ≤ serial) :
    x.afterMarkFreeing serial = { x with
      mark := serial + 1
      missed := countTo 4294967295 x.missed
      flight := x.flight.map fun t => t.freedMark serial } := if_pos h

/-- A transfer that a freed Mark leaves lossless does not deliver that Mark (R144). -/
theorem Transfer.freedMark_lossless {t : Transfer} {serial : Nat} (h : (t.freedMark serial).overtaken = none) :
    t.freedMark serial = t ∧
      ∀ first count, t.delivery = .marks first count → ¬(first ≤ serial ∧ serial < first + count) := by
  unfold Transfer.freedMark at h ⊢
  cases hd : t.delivery with
  | block q => exact ⟨rfl, nofun⟩
  | emptyReply => exact ⟨rfl, nofun⟩
  | marks first count =>
    rw [hd] at h
    dsimp only at h ⊢
    split at h
    · cases h
    · rename_i hn
      rw [if_neg hn]
      refine ⟨rfl, fun first' count' heq hcover => hn ?_⟩
      cases heq
      exact ⟨hcover.1, hcover.2, h⟩

/-- The Mark List shortened at its old end keeps a Reader that the freeing has moved on (R158). -/
theorem State.readerWf.afterMarkFreeing {x : Reader} (h : s.readerWf x) (ho : t.marks.oldest = s.marks.oldest + 1)
    (hlt : s.marks.oldest < s.marks.next) (hn : t.marks.next = s.marks.next) (hr : t.ring = s.ring)
    (hb : x.attached = true → x.retention = some .binding → s.marks.oldest < x.mark) :
    t.readerWf (x.afterMarkFreeing s.marks.oldest) := by
  obtain ⟨hcursors, hflight⟩ := (s.readerWf_iff x).1 h
  by_cases hreach : x.yields = true ∧ x.mark ≤ s.marks.oldest
  · have hattached : x.attached = true := (Bool.and_eq_true_iff.1 hreach.1).1
    obtain ⟨hret, hrel, hread, hnext, hmark, _⟩ := hcursors hattached
    rw [x.afterMarkFreeing_reached _ hreach, State.readerWf_iff, State.cursorsWf, ho, hn, hr]
    refine ⟨fun _ => ⟨hret, hrel, hread, hnext, le_rfl, hlt⟩, fun f hf => ⟨hattached, fun hlossless => ?_⟩⟩
    obtain ⟨f', hf', rfl⟩ := Option.map_eq_some_iff.1 hf
    obtain ⟨hsame, hother⟩ := Transfer.freedMark_lossless hlossless
    rw [hsame] at hlossless ⊢
    obtain ⟨hblock, hmarks⟩ := (hflight f' hf').2 hlossless
    rw [State.delivers, hn, hr]
    refine ⟨hblock, fun first count hd => .inl ?_⟩
    obtain hzero | ⟨hfirst, _⟩ := hmarks first count hd
    · exact hzero
    · have hcover := hother first count hd
      omega
  · rw [x.afterMarkFreeing_other _ hreach, State.readerWf_iff, State.cursorsWf, ho, hn, hr]
    refine ⟨fun ha => ?_, fun f hf => ⟨(hflight f hf).1, fun hlossless => ?_⟩⟩
    · obtain ⟨hret, hrel, hread, hnext, hmark, hmnext⟩ := hcursors ha
      refine ⟨hret, hrel, hread, hnext, ?_, hmnext⟩
      by_cases hbind : x.retention = some .binding
      · exact hb ha hbind
      · exact Nat.lt_of_not_ge fun hle => hreach ⟨Reader.attached_yields ha hret hbind, hle⟩
    · rw [State.delivers, hn, hr]
      exact (hflight f hf).2 hlossless

theorem MarkList.oldest_freed (m : MarkList) (h : m.wf) (hne : 0 < m.marks.length) :
    ({ m with marks := m.marks.tail } : MarkList).wf ∧
      ({ m with marks := m.marks.tail } : MarkList).oldest = m.oldest + 1 := by
  obtain ⟨hlen, hrun⟩ := m.wf_iff.1 h
  have hle := hrun.1
  rw [List.length_map] at hle
  refine ⟨(MarkList.wf_iff _).2 ⟨?_, ?_⟩, ?_⟩
  · rw [List.length_tail]
    omega
  · rw [List.map_tail]
    exact hrun.tail
  · rw [MarkList.oldest, MarkList.oldest, List.length_tail]
    dsimp only
    omega

/-- A freeing of a Mark that retention permits keeps the record (R152, R157). -/
theorem State.recordWf.freeMark (h : s.recordWf) (hne : 0 < s.marks.marks.length)
    (hk : ¬s.markKept s.marks.oldest) : s.freeMark.recordWf := by
  obtain ⟨hring, hmarks, hreaders, hholds, hlast⟩ := s.recordWf_iff.1 h
  have hr : s.freeMark.ring = s.ring := by rw [s.freeMark_eq]
  have hm : s.freeMark.marks = { s.marks with marks := s.marks.marks.tail } := by rw [s.freeMark_eq]
  obtain ⟨hwf, ho⟩ := s.marks.oldest_freed hmarks hne
  rw [← hm] at hwf ho
  have hlt : s.marks.oldest < s.marks.next := by
    have hle := hmarks.2.1
    rw [MarkList.oldest]
    omega
  refine s.freeMark.recordWf_iff.2 ⟨hr ▸ hring, hwf, fun p => ?_, fun e => ?_, hr ▸ hlast⟩
  · rw [s.freeMark_reader]
    refine (hreaders p).afterMarkFreeing ho hlt (by rw [hm]) hr fun ha hb => Nat.lt_of_not_ge fun hle => ?_
    exact hk ⟨p, (Reader.attached_iff _).1 ha, hb, hle⟩
  · rw [State.holdWf_iff, hr]
    exact (s.holdWf_iff _).1 (hholds e)

/-! ### The storing of a Mark (R153, R159) -/

theorem MarkList.append_wf (m : MarkList) (x : Mark) (h : m.wf) (hl : m.marks.length < 1024) :
    (m.append x).wf ∧ (m.append x).oldest = m.oldest := by
  obtain ⟨_, hrun⟩ := m.wf_iff.1 h
  refine ⟨(m.append x).wf_iff.2 ⟨?_, ?_⟩, ?_⟩
  · rw [MarkList.append, List.length_append, List.length_singleton]
    exact hl
  · rw [MarkList.append, List.map_append]
    exact hrun.concat
  · rw [MarkList.oldest, MarkList.append, List.length_append, List.length_singleton, MarkList.oldest,
      Nat.add_sub_add_right]

theorem State.recordWf.appendMark (h : s.recordWf) (x : Mark) (hl : s.marks.marks.length < 1024) :
    State.recordWf { s with marks := s.marks.append x } := by
  obtain ⟨hring, hmarks, hreaders, hholds, hlast⟩ := s.recordWf_iff.1 h
  obtain ⟨hwf, ho⟩ := s.marks.append_wf x hmarks hl
  exact (State.recordWf_iff _).2 ⟨hring, hwf, fun p => (hreaders p).grow rfl le_rfl ho (Nat.le_succ _),
    fun e => (hholds e).grow rfl le_rfl, hlast⟩

/-- A storing of a Mark keeps the record where retention permits the freeing that it may need (R157, R159). -/
theorem State.recordWf.storeMark (h : s.recordWf) (q : MarkRequest)
    (hk : s.marks.marks.length = 1024 → ¬s.markKept s.marks.oldest) : (s.storeMark q).recordWf := by
  have hlen := ((s.recordWf_iff).1 h).2.1.1
  generalize hu : (if s.marks.marks.length ≥ 1024 then s.freeMark else s) = u
  have hfreed : u.recordWf ∧ u.marks.marks.length < 1024 := by
    rw [← hu]
    split
    · have hshort : s.freeMark.marks.marks.length < 1024 := by
        rw [s.freeMark_eq, List.length_tail]
        omega
      exact ⟨h.freeMark (by omega) (hk (by omega)), hshort⟩
    · exact ⟨h, by omega⟩
  have hstored : s.storeMark q = State.raiseBoth { u with marks := u.marks.append (s.makeMark q) } .mark := by
    rw [← hu]
    rfl
  rw [hstored]
  exact (hfreed.1.appendMark _ hfreed.2).congr rfl

/-! ### Two storings at one insertion (R157, R161) -/

theorem Reader.binds_afterMarkFreeing {x : Reader} {serial : Nat} (h : (x.afterMarkFreeing serial).binds = true) :
    x.afterMarkFreeing serial = x := by
  by_cases hreach : x.yields = true ∧ x.mark ≤ serial
  · rw [x.afterMarkFreeing_reached _ hreach] at h
    obtain ⟨_, hb⟩ := (Reader.binds_iff _).1 h
    obtain ⟨_, hy⟩ := x.yields_iff.1 hreach.1
    rw [hy] at hb
    cases hb
  · exact x.afterMarkFreeing_other _ hreach

/-- A storing of a Mark makes retention keep nothing more (R157). -/
theorem State.markKept_storeMark {q : MarkRequest} {serial : Nat} (h : (s.storeMark q).markKept serial) :
    s.markKept serial := by
  have hreaders : (s.storeMark q).readers = s.readers ∨ (s.storeMark q).readers = s.freeMark.readers := by
    unfold State.storeMark
    dsimp only
    split
    · exact .inr rfl
    · exact .inl rfl
  obtain ⟨p, hp⟩ := h
  refine ⟨p, ?_⟩
  obtain hsame | hfreed := hreaders
  · rwa [hsame] at hp
  · rw [hfreed, s.freeMark_reader] at hp
    rwa [Reader.binds_afterMarkFreeing ((Reader.binds_iff _).2 ⟨hp.1, hp.2.1⟩)] at hp

/-- With an entry to be had, a freeing that the storing needs is permitted (R157). -/
theorem State.not_markKept_of_entries (hs : 1 ≤ s.obtainableEntries) (hfull : s.marks.marks.length = 1024) :
    ¬s.markKept s.marks.oldest := fun hk => by
  have hzero := (s.obtainableEntries_zero_iff hfull.le).2 ⟨hfull, hk⟩
  omega

theorem State.recordWf.storeLost (h : s.recordWf) (hs : 1 ≤ s.obtainableEntries) : s.storeLost.recordWf := by
  have hstored := h.storeMark s.lostRequest (State.not_markKept_of_entries hs)
  unfold State.storeLost
  dsimp only
  generalize s.storeMark s.lostRequest = u at hstored
  exact hstored.congr rfl

/-- With two entries to be had, so is the freeing that a second storing needs (R157, R161). -/
theorem State.recordWf.not_markKept_second (h : s.recordWf) (hs : s.obtainableEntries = 2)
    (hfull : s.storeLost.marks.marks.length = 1024) : ¬s.storeLost.markKept s.storeLost.marks.oldest := by
  have hlen := ((s.recordWf_iff).1 h).2.1.1
  have hle := ((s.recordWf_iff).1 h).2.1.2.1
  have hk : ∀ n, s.marksBound n = false → ¬s.storeLost.markKept n := fun n hn hkept => by
    have hbound := (s.marksBound_iff n).2 (State.markKept_storeMark (q := s.lostRequest) hkept)
    rw [hn] at hbound
    cases hbound
  refine hk _ ?_
  have ho : s.storeLost.marks.oldest = s.marks.next + 1 - 1024 := by
    rw [MarkList.oldest, hfull, s.storeLost_marks]
  rw [ho]
  rw [s.storeLost_marks, List.length_append, List.length_singleton] at hfull
  obtain hlast | hall : s.marks.marks.length = 1023 ∨ s.marks.marks.length = 1024 := by
    split at hfull
    · omega
    · omega
  · rw [s.obtainableEntries_last hlast] at hs
    have hold : s.marks.oldest = s.marks.next + 1 - 1024 := by rw [MarkList.oldest]; omega
    rw [← hold]
    by_contra hp
    rw [Bool.not_eq_false] at hp
    rw [if_pos hp] at hs
    cases hs
  · rw [s.obtainableEntries_full hall] at hs
    have hold : s.marks.oldest + 1 = s.marks.next + 1 - 1024 := by rw [MarkList.oldest]; omega
    rw [← hold]
    by_contra hp
    rw [Bool.not_eq_false] at hp
    rw [if_pos hp] at hs
    split at hs <;> cases hs

/-! ### Insertions and re-counts (R153, R159 to R162) -/

theorem State.recordWf.countLost (h : s.recordWf) (time : Nat) : (s.countLost time).recordWf := h.congr rfl

theorem State.recordWf.insertMark (h : s.recordWf) (q : MarkRequest) : (s.insertMark q).recordWf := by
  obtain ⟨_, hs, heq⟩ | ⟨_, heq⟩ | ⟨_, hs, heq⟩ | ⟨_, hs, heq⟩ := s.insertMark_cases q <;> rw [heq]
  · exact h.storeMark q (State.not_markKept_of_entries hs)
  · exact h.countLost q.time
  · exact (h.storeLost (by omega)).storeMark q (h.not_markKept_second hs)
  · exact (h.countLost q.time).storeLost hs.ge

theorem State.recordWf.requestMark (h : s.recordWf) (q : MarkRequest) : (s.requestMark q).recordWf :=
  .ite (h.insertMark q) h

theorem State.recordWf.drainLost (h : s.recordWf) : s.drainLost.recordWf :=
  iteInduction (fun hd => h.storeLost hd.2.2) fun _ => h

end

end Sys2Proof.Machine
end

section
/-! The commands of the Readers, the Hold Table and the ports stay within the record: attaching, releasing, seeking,
transfers, placing and dropping Holds, and PORT_RESET (R117 to R121, R125 to R143, R179). -/

namespace Sys2Proof.Machine

section
variable {s t : State}

theorem Ring.oldest_le_next (r : Ring) : r.oldest ≤ r.next := Nat.sub_le _ _

theorem MarkList.oldest_le_next (m : MarkList) : m.oldest ≤ m.next := Nat.sub_le _ _

/-! ### Attaching, releasing and seeking (R126, R127, R132, R140, R141) -/

/-- The cursors of an ATTACH are an end of the record (Table 7.2). -/
theorem State.recordWf.attachAt (h : s.recordWf) (p : Port) (newest : Bool)
    (ha : ¬(s.readers.get p).attached = true) : (s.attachAt p newest).recordWf := by
  refine h.setEvaluated p (State.readerWf_settled ?_ ((h.reader p).noFlight ha))
  cases newest
  · exact ⟨rfl, le_rfl, le_rfl, s.ring.oldest_le_next, le_rfl, s.marks.oldest_le_next⟩
  · exact ⟨rfl, s.ring.oldest_le_next, le_rfl, le_rfl, s.marks.oldest_le_next, le_rfl⟩

theorem State.recordWf.attach (h : s.recordWf) (p : Port) (position : Byte) : (s.attach p position).2.recordWf := by
  unfold State.attach
  dsimp only
  refine .answered h (.answered h ?_)
  split
  · exact h
  · rename_i ha
    exact h.attachAt p _ ha

theorem State.recordWf.detach (h : s.recordWf) (p : Port) (hf : (s.readers.get p).flight = none) :
    (s.detach p).2.recordWf :=
  have hx : s.readerWf { s.readers.get p with state := .detached, retention := none, flags := clearFlags } :=
    State.readerWf_detached rfl hf
  .answered (h.setReader p hx).drainGap.drainLost h

/-- A level is no claim on the record (R132). -/
theorem State.recordWf.setAvailLevel (h : s.recordWf) (p : Port) (level : Nat) :
    (s.setAvailLevel p level).2.recordWf := h.setEvaluated p ((h.reader p).congr rfl)

theorem State.recordWf.setLagLevel (h : s.recordWf) (p : Port) (level : Nat) :
    (s.setLagLevel p level).2.recordWf := h.setEvaluated p ((h.reader p).congr rfl)

/-- A RELEASE moves the Release Cursor on, but not past the Read Cursor (R140). -/
theorem State.recordWf.release (h : s.recordWf) (p : Port) (seq : Nat)
    (hf : (s.readers.get p).flight = none) : (s.release p seq).2.recordWf := by
  unfold State.release
  dsimp only
  split
  · exact h
  · rename_i ha
    obtain ⟨hret, hrel, hread, hnext, hmark⟩ := (h.reader p).cursors (by simpa using ha)
    split
    · exact h
    · rename_i hbelow
      have hc : s.cursorsWf { s.readers.get p with release := min (seq + 1) (s.readers.get p).read } :=
        ⟨hret, le_min (by omega) (hrel.trans hread), Nat.min_le_right _ _, hnext, hmark⟩
      exact (h.setEvaluated p (State.readerWf_settled hc hf)).drainGap

/-- A SEEK moves the Read Cursor within the ring, the Release Cursor with it where it goes below (R141). -/
theorem State.recordWf.seek (h : s.recordWf) (p : Port) (seq : Nat)
    (hf : (s.readers.get p).flight = none) : (s.seek p seq).2.recordWf := by
  unfold State.seek
  dsimp only
  split
  · exact h
  · rename_i ha
    obtain ⟨hret, hrel, hread, hnext, hmark⟩ := (h.reader p).cursors (by simpa using ha)
    split
    · exact h
    · rename_i hold
      split
      · exact h
      · rename_i hnew
        exact h.setEvaluated p (State.readerWf_settled
          ⟨hret, le_min hrel (Nat.le_of_not_lt hold), Nat.min_le_right _ _, Nat.le_of_not_lt hnew, hmark⟩ hf)

/-! ### Transfers (R134 to R143) -/

/-- A transfer that succeeds has lost nothing, and delivers a Block or some Marks (R136, R137, R143). -/
theorem Transfer.outcome_ok {x : Transfer} (h : x.outcome = .ok) :
    x.overtaken = none ∧ x.delivery ≠ .emptyReply ∧ ∀ first, x.delivery ≠ .marks first 0 := by
  unfold Transfer.outcome at h
  cases hd : x.delivery with
  | emptyReply =>
    rw [hd] at h
    cases h
  | block q =>
    cases ho : x.overtaken with
    | none => exact ⟨rfl, nofun, nofun⟩
    | some cut => simp [hd, ho] at h
  | marks first count =>
    cases ho : x.overtaken with
    | none =>
      refine ⟨rfl, nofun, fun first' heq => ?_⟩
      cases heq
      simp [hd] at h
    | some cut =>
      simp only [hd, ho, Option.isSome_some, if_true] at h
      split at h <;> cases h

/-- A complete delivery moves a cursor over what was there to deliver (R137, R143). -/
theorem State.recordWf.delivered (h : s.recordWf) (p : Port) {x : Transfer}
    (hf : (s.readers.get p).flight = none) (ha : (s.readers.get p).attached = true)
    (hd : s.delivers (s.readers.get p) x) (hm : ∀ first, x.delivery ≠ .marks first 0) :
    (s.delivered p x.delivery).recordWf := by
  obtain ⟨hblock, hmarks⟩ := hd
  obtain ⟨hret, hrel, hread, hnext, hmark, hmnext⟩ := (h.reader p).cursors ha
  unfold State.delivered
  dsimp only
  cases hdel : x.delivery with
  | emptyReply => exact h
  | block q =>
    obtain ⟨hq, hlt⟩ := hblock q hdel
    exact h.setEvaluated p (State.readerWf_settled ⟨hret, hrel, hread.trans (Nat.le_succ _),
      Nat.succ_le_of_lt (hq ▸ hlt), hmark, hmnext⟩ hf)
  | marks first count =>
    obtain hzero | ⟨hfirst, hend⟩ := hmarks first count hdel
    · exact absurd (hzero ▸ hdel) (hm first)
    · have hc : s.cursorsWf { s.readers.get p with mark := (s.readers.get p).mark + count } :=
        ⟨hret, hrel, hread, hnext, hmark.trans (Nat.le_add_right _ _), hfirst.symm ▸ hend⟩
      exact (h.setReader p (State.readerWf_settled hc hf)).drainLost

theorem State.recordWf.endTransfer (h : s.recordWf) (p : Port) {x y : Transfer}
    (hx : (s.readers.get p).flight = some x) (hd : y.delivery = x.delivery) (ho : y.overtaken = x.overtaken) :
    (s.endTransfer p y).recordWf := by
  obtain ⟨hcursors, hflight⟩ := (s.readerWf_iff _).1 (h.reader p)
  obtain ⟨ha, hdelivers⟩ := hflight x hx
  unfold State.endTransfer
  dsimp only
  generalize hu : State.setResult _ p _ = u
  have hreader : u.readers.get p = { s.readers.get p with flight := none } := by
    rw [← hu]
    exact Both.get_set _ _ _
  have hended : s.readerWf { s.readers.get p with flight := none } := State.readerWf_settled (hcursors ha) rfl
  have hwf : u.recordWf := by
    rw [← hu]
    exact (h.setReader p hended).congr rfl
  split
  · rename_i hok
    obtain ⟨hlive, _, hsome⟩ := Transfer.outcome_ok hok
    have hdel : s.delivers (s.readers.get p) y := by
      unfold State.delivers
      rw [hd]
      exact hdelivers (ho ▸ hlive)
    refine hwf.delivered p (by rw [hreader]) (by rw [hreader]; exact ha) ?_ hsome
    rw [hreader, ← hu]
    exact hdel
  · exact hwf

theorem State.recordWf.rise (h : s.recordWf) (p : Port) (more : Nat) : (s.rise p more).recordWf := by
  unfold State.rise
  split
  · exact h
  · rename_i x hx
    exact h.endTransfer p hx rfl rfl

theorem State.recordWf.launch (h : s.recordWf) (p : Port) {x : Transfer} (ha : (s.readers.get p).attached = true)
    (hd : s.delivers (s.readers.get p) x) : (s.launch p x).recordWf := by
  refine h.setReader p ((s.readerWf_iff _).2 ⟨fun _ => (h.reader p).cursors ha, fun y hy => ⟨ha, fun _ => ?_⟩⟩)
  cases hy
  exact hd

/-- A READ_BLOCK delivers the Block at the Read Cursor, which is below N (R134). -/
theorem State.blockDelivery_delivers (s : State) (p : Port) (whole : Bool) {x : Transfer}
    (hx : x.delivery = (s.blockDelivery p whole).1) : s.delivers (s.readers.get p) x := by
  unfold State.blockDelivery at hx
  dsimp only at hx
  rw [State.delivers, hx]
  split
  · rename_i havail
    have hlt : (s.readers.get p).read < s.ring.next := by
      rw [Reader.avail] at havail
      omega
    split
    · refine ⟨fun q hq => ?_, nofun⟩
      cases hq
      exact ⟨rfl, hlt⟩
    · exact ⟨nofun, nofun⟩
  · exact ⟨nofun, nofun⟩

/-- A READ_MARKS delivers Marks from the Mark Cursor on, up to the next serial at most (R142). -/
theorem State.recordWf.markDelivery_delivers (h : s.recordWf) (p : Port) (most : Nat) {x : Transfer}
    (ha : (s.readers.get p).attached = true) (hx : x.delivery = (s.markDelivery p most).1) :
    s.delivers (s.readers.get p) x := by
  obtain ⟨_, _, _, _, _, hmnext⟩ := (h.reader p).cursors ha
  rw [State.delivers, hx, State.markDelivery]
  refine ⟨nofun, fun first count hd => .inr ?_⟩
  cases hd
  exact ⟨rfl, by omega⟩

/-! ### Holds (R117 to R119, R121) -/

/-- A Hold placed in a free entry lies in the ring (R118). -/
theorem State.recordWf.holding (h : s.recordWf) (p : Port) {first last : Nat} {e : Fin 8}
    (hs : s.ring.stores first last) (hspan : last - first + 1 ≤ 6144) (he : s.ring.holds[e] = none) :
    (s.holding p first last e).recordWf := by
  obtain ⟨hring, hmarks, hreaders, hholds, hlast⟩ := s.recordWf_iff.1 h
  obtain ⟨_, hfirst, horder, hend⟩ := hs
  have hset : ∀ d : Fin 8, (s.holding p first last e).ring.holds[d] =
      if d = e then some ⟨p, s.settings.guarded.retention.get p, first, last⟩ else s.ring.holds[d] := fun d => by
    change (s.ring.holds.set e _)[(d : Nat)] = _
    rw [Vector.getElem_set]
    exact if_congr (by rw [Fin.ext_iff, eq_comm]) rfl rfl
  refine (State.recordWf_iff _).2 ⟨hring, hmarks, hreaders, fun d => ?_, fun q d hd => ?_⟩
  · rw [hset]
    split
    · exact ⟨hfirst, horder, hend, hspan⟩
    · exact hholds d
  · rw [hset]
    obtain rfl | rfl := otherPort_cases p q
    · rw [State.holding, Both.get_set] at hd
      rw [if_pos (Option.some.inj hd).symm]
      exact ⟨_, rfl, rfl⟩
    · rw [State.holding, Both.get_set_other] at hd
      obtain ⟨x, hx, ho⟩ := hlast _ d hd
      rw [if_neg fun hde => by rw [hde, he] at hx; cases hx]
      exact ⟨x, hx, ho⟩

theorem State.recordWf.placeHold (h : s.recordWf) (p : Port) (first last : Nat) :
    (s.placeHold p first last).2.recordWf := by
  by_cases hs : s.ring.stores first last
  · rw [s.placeHold_stored p hs]
    split
    · exact h
    · rename_i hspan
      cases he : freeEntry s.ring.holds with
      | none => exact h
      | some e => exact h.holding p hs (Nat.le_of_not_lt hspan) (freeEntry_isFree he)
  · rw [s.placeHold_range p hs]
    exact h

/-- Entries may be freed: what is left is a Hold that was there (R117). -/
theorem State.recordWf.withHolds (h : s.recordWf) {holds : Vector (Option Hold) 8}
    (hh : ∀ e : Fin 8, holds[e] = none ∨ holds[e] = s.ring.holds[e]) :
    State.recordWf { s with ring := s.ring.withHolds holds } := by
  obtain ⟨hring, hmarks, hreaders, hholds, hlast⟩ := s.recordWf_iff.1 h
  refine (State.recordWf_iff _).2 ⟨hring, hmarks, hreaders, fun e => ?_,
    hlast.after (fun p => Both.get_map _ _ p) fun e x hx => ⟨x, ?_, rfl⟩⟩
  · change s.holdWf holds[e]
    obtain hnone | hsame := hh e
    · rw [hnone]
      trivial
    · rw [hsame]
      exact hholds e
  · change holds[e] = some x at hx
    obtain hnone | hsame := hh e
    · rw [hnone] at hx
      cases hx
    · rwa [← hsame]

theorem State.recordWf.dropHold (h : s.recordWf) (p : Port) (entry : Nat) : (s.dropHold p entry).2.recordWf := by
  obtain hlow | hhigh := Nat.lt_or_ge entry 8
  · generalize he : (⟨entry, hlow⟩ : Fin 8) = e
    obtain rfl : (e : Nat) = entry := by rw [← he]
    have hdropped : (s.dropping e).recordWf := by
      refine h.withHolds fun d => ?_
      change (s.ring.holds.set e none)[(d : Nat)] = none ∨
        (s.ring.holds.set e none)[(d : Nat)] = s.ring.holds[(d : Nat)]
      rw [Vector.getElem_set]
      split
      · exact .inl rfl
      · exact .inr rfl
    cases hx : s.ring.holds[e] with
    | none =>
      rw [s.dropHold_free p hx]
      exact h
    | some x =>
      rw [s.dropHold_held p hx]
      exact .answered hdropped.drainGap h
  · rw [s.dropHold_range p hhigh]
    exact h

/-! ### PORT_RESET (R179) -/

/-- The Holds of a port, and no others, are removed (R121). -/
theorem Ring.withoutHoldsOf_hold (r : Ring) (p : Port) (e : Fin 8) :
    (r.withoutHoldsOf p).holds[e] = r.holds[e].filter fun x => decide (x.owner ≠ p) := Vector.getElem_ofFn e.isLt

theorem State.recordWf.clearPort (h : s.recordWf) (p : Port) : (s.clearPort p).recordWf := by
  obtain ⟨hring, hmarks, hreaders, hholds, hlast⟩ := s.recordWf_iff.1 h
  refine (State.recordWf_iff _).2 ⟨hring, hmarks, fun q => ?_, fun e => ?_, fun q e he => ?_⟩
  · obtain rfl | rfl := otherPort_cases p q
    · have hreset : (s.clearPort q).readers.get q = (s.readers.get q).portReset := Both.get_update _ _ _
      rw [hreset]
      exact State.readerWf_detached rfl rfl
    · have hkept : (s.clearPort p).readers.get (otherPort p) = s.readers.get (otherPort p) :=
        Both.get_set_other _ _ _
      rw [hkept]
      exact hreaders _
  · have hhold : (s.clearPort p).ring.holds[e] = s.ring.holds[e].filter fun x => decide (x.owner ≠ p) :=
      s.ring.withoutHoldsOf_hold p e
    rw [hhold]
    refine (State.holdWf_iff _ _).2 fun x hx => ?_
    exact (s.holdWf_iff _).1 (hholds e) x (Option.filter_eq_some_iff.1 hx).1
  · have hhold : (s.clearPort p).ring.holds[e] = s.ring.holds[e].filter fun x => decide (x.owner ≠ p) :=
      s.ring.withoutHoldsOf_hold p e
    rw [hhold]
    change (s.ring.lastPlaced.set p none).get q = some e at he
    obtain rfl | rfl := otherPort_cases p q
    · rw [Both.get_set] at he
      cases he
    · rw [Both.get_set_other] at he
      obtain ⟨x, hx, ho⟩ := hlast _ e he
      have hother : x.owner ≠ p := by
        rw [ho]
        cases p <;> decide
      exact ⟨x, Option.filter_eq_some_iff.2 ⟨hx, by simpa using hother⟩, ho⟩

theorem State.recordWf.portReset (h : s.recordWf) (p : Port) : (s.portReset p).2.recordWf :=
  (h.clearPort p).drainGap.drainLost

/-! ### OPEN_SESSION (R83) -/

theorem Transfer.lostToOpening_lossless {x : Transfer} (h : x.lostToOpening.overtaken = none) :
    x.lostToOpening.delivery = .emptyReply := by
  rw [x.lostToOpening_eq] at h ⊢
  split
  · rename_i hd
    exact hd
  · rename_i hd
    rw [if_neg hd] at h
    cases h

/-- An opened Session starts with an empty record, at whose start every attached Reader stands (R83). -/
theorem State.recordWf.cleared (h : s.recordWf) (verify : Bool) : (s.cleared verify).recordWf := by
  refine State.recordWf_empty rfl rfl fun p => ?_
  have hopened : (s.cleared verify).readers.get p = (s.readers.get p).opened := Both.get_map _ _ p
  obtain ⟨hcursors, hflight⟩ := (s.readerWf_iff _).1 (h.reader p)
  rw [hopened]
  by_cases ha : (s.readers.get p).state = .detached
  · have hdetached : ¬(s.readers.get p).attached = true := fun hn => (Reader.attached_iff _).1 hn ha
    rw [Reader.opened_detached _ ha]
    exact State.readerWf_detached (by simpa using hdetached) ((h.reader p).noFlight hdetached)
  · obtain ⟨hret, _⟩ := hcursors ((Reader.attached_iff _).2 ha)
    rw [Reader.opened_attached _ ha]
    refine (State.readerWf_iff _ _).2 ⟨fun _ => ⟨hret, le_rfl, le_rfl, le_rfl, le_rfl, le_rfl⟩, fun x hx =>
      ⟨rfl, fun hlossless => ?_⟩⟩
    obtain ⟨y, _, rfl⟩ := Option.map_eq_some_iff.1 hx
    rw [State.delivers, Transfer.lostToOpening_lossless hlossless]
    exact ⟨nofun, nofun⟩

theorem State.recordWf.openSession (h : s.recordWf) (p : Port) (flag : Byte) :
    (s.openSession p flag).2.recordWf := by
  have hopened : ∀ verify, (s.opened p verify).recordWf := fun verify =>
    ((h.cleared verify).requestMark _).raiseBoth .state
  exact .answered h (.answered h (.answered h (hopened _)))

end

end Sys2Proof.Machine
end

section
/-! A property of the state through a Frame whose row meets the port with no transfer in flight (R134, R142, R171). -/

namespace Sys2Proof.Machine

/-- A Frame that is judged meets its port with no transfer in flight (log entry 12). -/
theorem State.judge_settled (s : State) (p : Port) (w : LaneWidth) (edges : Nat) {act act' : State → State}
    (h : ∀ t : State, (t.readers.get p).flight = none → act t = act' t) :
    s.judge p w edges act = s.judge p w edges act' := by
  unfold State.judge State.atFrame
  split
  · rfl
  · exact h _ (s.finishBoundary.rise_keeps p 0).2

theorem State.takeCommand_settled (s : State) (p : Port) (f : Frame) {act act' : State → State}
    (h : ∀ t : State, (t.readers.get p).flight = none → act t = act' t) :
    s.takeCommand p f act = s.takeCommand p f act' := by
  unfold State.takeCommand State.takeFrame
  rw [s.judge_settled p _ _ h]

variable {P : State → Prop}

/-- A Frame keeps what its row keeps on a port with no transfer in flight. -/
theorem FrameStable.takeCommand_settled (h : FrameStable P) (s : State) (p : Port) (f : Frame) {act : State → State}
    (hact : ∀ t, P t → (t.readers.get p).flight = none → P (act t)) (hs : P s) : P (s.takeCommand p f act) := by
  rw [s.takeCommand_settled p f (act' := fun t => if (t.readers.get p).flight = none then act t else t)
    fun t ht => (if_pos ht).symm]
  exact h.takeCommand s p f (fun t ht => iteInduction (hact t ht) fun _ => ht) hs

/-- A write Frame keeps what its command keeps on a port with no transfer in flight. -/
theorem FrameStable.writeFrame_settled (h : FrameStable P) (s : State) (p : Port) (f : Frame) (n : Nat)
    {act : State → List Byte → Result × State}
    (hact : ∀ t bs, P t → (t.readers.get p).flight = none → P (act t bs).2) (hs : P s) :
    P (s.writeFrame p f n act) := by
  refine h.takeCommand_settled s p f (fun t ht hf => ?_) hs
  have hshifted : P (t.shifted p f) := h.ports t _ ht
  dsimp only
  split
  · exact h.ports _ _ (hact _ _ hshifted hf)
  · exact h.ports _ _ hshifted

/-- A Frame of READ_BLOCK or READ_MARKS keeps what the start of a transfer that is not refused keeps. -/
theorem FrameStable.transferFrame_unrefused (h : FrameStable P) (s : State) (p : Port) (f : Frame)
    (refusal : State → Byte → Option Result) (fixed : State → Byte → Delivery × List Byte)
    (hlaunch : ∀ t c x, P t → refusal t c = none → x.delivery = (fixed t c).1 → P (t.launch p x)) (hs : P s) :
    P (s.transferFrame p f refusal fixed) := by
  refine h.takeCommand s p f (fun t ht => ?_) hs
  dsimp only
  split
  · exact h.ports t _ ht
  · split
    · exact h.ports t _ ht
    · rename_i hrefusal
      split
      · exact h.ports t _ ht
      · exact h.ports _ _ (hlaunch t _ ⟨_, _, _, _, none⟩ ht hrefusal rfl)

end Sys2Proof.Machine
end

section
/-! The record stays in agreement with itself through every command: what reaches it does so by the operations on the
ring, the Mark List, the Readers and the Holds (R103, R117, R125, R152). -/

namespace Sys2Proof.Machine

variable {s t : State}

/-! ### Links, the clock and the Proceedings Controller only insert Marks -/

theorem State.recordWf.foldl {α : Type} {f : State → α → State}
    (hf : ∀ (s : State) (a : α), s.recordWf → (f s a).recordWf) (xs : List α) {s : State} (h : s.recordWf) :
    (xs.foldl f s).recordWf := by
  induction xs generalizing s with
  | nil => exact h
  | cons a xs ih => exact ih (hf s a h)

theorem State.recordWf.receiveLink (h : s.recordWf) (n : Fin 8) (x : LinkInput) : (s.receiveLink n x).recordWf := by
  have hreceived : State.recordWf { s with links := s.links.set n (s.received n x) } := h.congr rfl
  exact .ite ((hreceived.raiseBoth .link).requestMark _) hreceived

theorem State.recordWf.receiveTransition (h : s.recordWf) (n : Fin 8) (x : LinkInput)
    (before after : LinkState) : (s.receiveTransition n x before after).recordWf := .ite (h.receiveLink n x) h

theorem State.recordWf.enableLink (h : s.recordWf) (n : Fin 8) (on : Bool) : (s.enableLink n on).recordWf := by
  have hpassed : (if on && s.awaitsFrame n then s.receiveLink n .absent else s).recordWf :=
    .ite (h.receiveLink n .absent) h
  unfold State.enableLink
  dsimp only
  generalize (if on && s.awaitsFrame n then s.receiveLink n .absent else s) = u at hpassed
  exact .ite h (.ite (hpassed.congr rfl) (hpassed.congr rfl))

theorem State.recordWf.setClockState (h : s.recordWf) (c : ClockState) : (s.setClockState c).recordWf := by
  have hset : State.recordWf { s with clockUnit := { s.clockUnit with state := c } } := h.congr rfl
  exact .ite hset (hset.raiseBoth .clock)

theorem State.recordWf.loseHouse (h : s.recordWf) : s.loseHouse.recordWf := (h.setClockState _).requestMark _

theorem State.recordWf.applySource (h : s.recordWf) (x : ClockSource) : (s.applySource x).recordWf := by
  have hset : State.recordWf { s with settings := { s.settings with
      general := { s.settings.general with source := x } } } := h.congr rfl
  exact hset.setClockState _

theorem State.recordWf.setProc (h : s.recordWf) (x : Proceedings) : (s.setProc x).recordWf := h.congr rfl

theorem State.recordWf.enterSidebar (h : s.recordWf) (who : Party) (target : Option (Target × Party)) :
    (s.enterSidebar who target).recordWf := ((h.setProc _).requestMark _).raiseBoth .state

theorem State.recordWf.general (h : s.recordWf) (current : Bool) (target : Target) (who : Party) :
    (s.general current target who).2.recordWf :=
  .answered (.answered h (h.congr rfl)) (.answered h (h.congr rfl))

theorem State.recordWf.request (h : s.recordWf) (wanted : ProceedingsState) (who : Party) :
    (s.request wanted who).2.recordWf := by
  refine .answered h ?_
  cases wanted with
  | closed => exact h
  | offRecord =>
    dsimp only
    unfold State.requestOff
    split
    · exact h
    all_goals exact h.general _ _ who
  | onRecord =>
    dsimp only
    unfold State.requestOn
    split
    · exact h
    · exact h.general _ _ who
    · exact h.general _ _ who
    · exact .answered h (h.general _ _ who)
  | sidebar =>
    dsimp only
    unfold State.requestSidebar
    split
    · exact h
    · exact h.general _ _ who
    · exact h.enterSidebar who none
    · exact h.general _ _ who

theorem State.recordWf.privacyRise (h : s.recordWf) : s.privacyRise.recordWf := by
  unfold State.privacyRise
  split
  · exact h.enterSidebar _ _
  all_goals exact h

theorem State.recordWf.privacyFall (h : s.recordWf) : s.privacyFall.recordWf := by
  unfold State.privacyFall
  split
  · exact .ite (h.congr rfl) h
  all_goals exact h

theorem State.recordWf.lineChanged (h : s.recordWf) (l : Line) (level : Bool) (x : BenchLine) :
    (s.lineChanged l level x).recordWf := by
  cases l <;> cases level
  case onRec.true | offRec.true => exact h.request _ _
  case privacy.true => exact h.privacyRise
  case privacy.false => exact h.privacyFall
  case mark.true => exact h.requestMark _
  all_goals exact h

theorem State.recordWf.acceptLine (h : s.recordWf) (l : Line) : (s.acceptLine l).recordWf :=
  (h.setProc _).lineChanged l _ _

/-! ### A Sample Period -/

theorem State.recordWf.examined (h : s.recordWf) : s.examined.recordWf := by
  have hlinks : s.missLinks.recordWf := .foldl (fun _ n hu => .ite hu (hu.receiveLink n .absent)) _ h
  have hbench : s.missLinks.settleBench.recordWf := .foldl (fun _ l hu => .ite (hu.acceptLine l) hu) _ hlinks
  unfold State.examined
  generalize s.missLinks.settleBench = u at hbench
  exact hbench.congr rfl

theorem State.recordWf.trackPeriod (h : s.recordWf) : s.trackPeriod.recordWf := by
  obtain ⟨b, x, e, heq, _⟩ := s.trackPeriod_keeps
  rw [heq]
  exact h.congr rfl

theorem State.recordWf.endPeriod (h : s.recordWf) : s.endPeriod.recordWf := by
  have hloss : s.examined.settleLoss.recordWf := .ite h.examined.loseHouse h.examined
  have hreturn : s.examined.settleLoss.settleReturn.recordWf := .ite (hloss.setClockState _) hloss
  have hcount : s.examined.settleLoss.settleReturn.countPeriod.recordWf := .ite (hreturn.trackPeriod.setProc _) hreturn
  rw [s.endPeriod_eq]
  generalize s.examined.settleLoss.settleReturn.countPeriod = u at hcount
  exact hcount.congr rfl

theorem State.recordWf.startPeriod (h : s.recordWf) (edge : Bool) (levels : BenchLevels) :
    (s.startPeriod edge levels).recordWf := by
  obtain ⟨b, x, y, heq, _⟩ := s.startPeriod_keeps edge levels
  rw [heq]
  exact h.congr rfl

/-! ### The Block Boundary -/

theorem State.recordWf.beginBoundary (h : s.recordWf) : s.beginBoundary.recordWf := by
  obtain ⟨a, w, c, heq⟩ := s.beginBoundary_keeps
  have hended := h.endPeriod
  rw [heq]
  generalize s.endPeriod = u at hended
  exact hended.congr rfl

theorem State.recordWf.flushFloor (h : s.recordWf) : s.flushFloor.recordWf := by
  unfold State.flushFloor
  split
  · rename_i next _ _ _ _
    have hasked : State.recordWf { s with stage := .turned next none } := h.congr rfl
    exact hasked.requestMark _
  all_goals exact h

theorem State.recordWf.askFloor (h : s.recordWf) (before : Option (Fin 32)) (cls : BlockClass) (after : Nat) :
    (s.askFloor before cls after).recordWf := by
  have hasked : ∀ g, State.recordWf { s with stage := g } := fun _ => h.congr rfl
  unfold State.askFloor
  split
  · exact .ite (.ite (hasked _).flushFloor (hasked _)) h
  all_goals exact h

theorem State.recordWf.boundaryMark (h : s.recordWf) (q : MarkRequest) : (s.boundaryMark q).recordWf := by
  have hmarked := h.requestMark q
  unfold State.boundaryMark
  dsimp only
  generalize s.requestMark q = u at hmarked
  have hcounted : ∀ g, State.recordWf { u with stage := g } := fun _ => hmarked.congr rfl
  split
  · exact .ite (hcounted _).flushFloor (hcounted _)
  all_goals exact hmarked

theorem State.recordWf.judged (h : s.recordWf) : s.judged.recordWf := by
  rw [s.judged_eq]
  exact h.same rfl rfl rfl

theorem State.recordWf.dealWith (h : s.recordWf) (b : BlockInProgress) : (s.dealWith b).recordWf := by
  have hrecorded : (s.recorded b).recordWf := h.congr rfl
  rw [s.dealWith_eq b]
  exact hrecorded.ringAtBoundary _ _

theorem State.recordWf.fixNext (h : s.recordWf) : s.fixNext.recordWf := h.congr rfl

/-- A Block Boundary reaches the record by the storing of the finished Block and by the FLOOR Mark (R73, R111). -/
theorem State.recordWf.turn (h : s.recordWf) (floorAfter : Nat) : (s.turn floorAfter).recordWf := by
  cases hb : s.inProgress with
  | none =>
    rw [s.turn_none floorAfter hb]
    exact h.judged.fixNext.askFloor _ _ _
  | some b =>
    rw [s.turn_some floorAfter b hb]
    exact (h.judged.dealWith b).fixNext.askFloor _ _ _

theorem State.recordWf.closeNow (h : s.recordWf) : s.closeNow.recordWf :=
  ((h.setProc _).insertMark _).raiseBoth .state

theorem State.recordWf.takeTarget (h : s.recordWf) : s.takeTarget.recordWf := by
  have huntargeted : (s.setTarget none).recordWf := h.congr rfl
  exact .ite huntargeted (((huntargeted.setProc _).boundaryMark _).raiseBoth .state)

theorem State.recordWf.activate (h : s.recordWf) (plan : Plan) : (s.activate plan).recordWf := h.congr rfl

theorem State.recordWf.takeArmed (h : s.recordWf) : s.takeArmed.recordWf := by
  unfold State.takeArmed
  split
  · exact h
  · exact (h.activate _).boundaryMark _

theorem State.recordWf.takeGains (h : s.recordWf) (order : List (Fin 32)) : (s.takeGains order).recordWf := by
  refine .foldl (fun u k hu => ?_) _ h
  cases hk : u.changes.gain[k] with
  | none =>
    rw [u.takeGain_none k hk]
    exact hu
  | some v =>
    have hset : (u.withGain k v).recordWf := hu.congr rfl
    rw [u.takeGain_some k hk]
    exact hset.boundaryMark _

theorem State.recordWf.markSource (h : s.recordWf) (before : ClockSource) : (s.markSource before).recordWf :=
  .ite h (h.boundaryMark _)

theorem State.recordWf.takeSource (h : s.recordWf) : s.takeSource.recordWf := by
  unfold State.takeSource
  split
  · exact h
  · have htaken : State.recordWf { s with changes := { s.changes with source := none } } := h.congr rfl
    exact (htaken.applySource _).markSource _

theorem State.recordWf.takeReturn (h : s.recordWf) : s.takeReturn.recordWf := (h.setClockState _).markSource _

theorem State.recordWf.ifDue (h : s.recordWf) (due : State → Bool) {act : State → State}
    (hact : ∀ u : State, u.recordWf → (act u).recordWf) : (s.ifDue due act).recordWf := .ite (hact s h) h

theorem State.recordWf.finishTurned (h : s.recordWf) : s.finishTurned.recordWf := by
  have hclose := h.ifDue State.closeDue fun _ => State.recordWf.closeNow
  have htarget := hclose.ifDue State.targetDue fun _ => State.recordWf.takeTarget
  have hplan := htarget.ifDue State.planDue fun _ => State.recordWf.takeArmed
  have hgain := hplan.ifDue State.gainDue fun _ hu => hu.takeGains []
  have hsource := hgain.ifDue State.sourceDue fun _ => State.recordWf.takeSource
  have hreturn := hsource.ifDue State.boundaryReturnDue fun _ => State.recordWf.takeReturn
  have hfloor := hreturn.flushFloor
  unfold State.finishTurned
  dsimp only
  generalize State.flushFloor _ = u at hfloor
  exact hfloor.congr rfl

theorem State.recordWf.finishBoundary (h : s.recordWf) : s.finishBoundary.recordWf := by
  unfold State.finishBoundary
  split
  · exact h
  · exact (h.turn 0).finishTurned
  · exact h.finishTurned

theorem State.recordWf.reachTurned (h : s.recordWf) (floorAfter : Nat) : (s.reachTurned floorAfter).recordWf := by
  have hbegun : s.reachBegun.recordWf := .ite h.beginBoundary h
  unfold State.reachTurned
  dsimp only
  split
  · exact hbegun.turn floorAfter
  · exact hbegun
  · exact hbegun

theorem State.recordWf.atBoundary (h : s.recordWf) (due : State → Bool) {act : State → State}
    (hact : ∀ u : State, u.recordWf → (act u).recordWf) : (s.atBoundary due act).recordWf :=
  .ite (hact _ (h.reachTurned 0)) h

theorem State.recordWf.samplePeriod (h : s.recordWf) (edge : Bool) (levels : BenchLevels) :
    (s.samplePeriod edge levels).recordWf := by
  have hended : (if s.boundaryDue then s.beginBoundary else if s.inPeriod then s.endPeriod else s).recordWf :=
    .ite h.beginBoundary (.ite h.endPeriod h)
  exact hended.finishBoundary.startPeriod edge levels

theorem State.recordWf.execSamplePeriod (h : s.recordWf) (edge : Bool) (levels : BenchLevels) :
    ∃ t, exec (.samplePeriod edge levels) s = .next t ∧ t.recordWf := by
  cases hp : s.power with
  | off => exact ⟨s, by simp [exec, Machine.execSamplePeriod, hp], h⟩
  | loading => exact ⟨s, by simp [exec, Machine.execSamplePeriod, hp], h⟩
  | running =>
    cases hr : s.resetLine with
    | false => exact ⟨_, exec_samplePeriod edge levels s hp hr, h.samplePeriod edge levels⟩
    | true =>
      exact ⟨{ s with frameSyncs := s.frameSyncs + 1 }, by simp [exec, Machine.execSamplePeriod, hp, hr],
        h.congr rfl⟩

end Sys2Proof.Machine
end

section
/-! Every command keeps the record: the rows that do not reach it, and those that reach it through the operations
above (R103, R117, R125, R152). -/

namespace Sys2Proof.Machine

variable {s t : State}

theorem frameStable_recordWf : FrameStable State.recordWf where
  ports _ _ h := h.same rfl rfl rfl
  finish _ h := h.finishBoundary
  rise _ p more h := h.rise p more

/-! ### The commands of the Session, the Plan and the settings -/

theorem State.recordWf.addNote (h : s.recordWf) (p : Port) (option : Byte) (time arg tag : Nat) :
    (s.addNote p option time arg tag).2.recordWf :=
  .answered h (.answered h (h.requestMark _))

theorem State.recordWf.requestClose (h : s.recordWf) (p : Port) : (s.requestClose p).2.recordWf :=
  .answered h (.answered h (h.setProc _))

theorem State.recordWf.setState (h : s.recordWf) (p : Port) (code : Byte) : (s.setState p code).2.recordWf := by
  unfold State.setState
  split
  · exact h
  · exact h.request _ _

theorem State.recordWf.planSetGroup (h : s.recordWf) (p : Port) (entry first count : Nat) (code : Byte) :
    (s.planSetGroup p entry first count code).2.recordWf := by
  unfold State.planSetGroup
  split
  · split
    · exact h
    · exact h.same rfl rfl rfl
  · exact h

theorem State.recordWf.planSetFormat (h : s.recordWf) (p : Port) (width total : Nat) :
    (s.planSetFormat p width total).2.recordWf :=
  .answered (h.same rfl rfl rfl) (.answered (h.same rfl rfl rfl) h)

theorem State.recordWf.activatePlan (h : s.recordWf) (expected : BitVec 16) :
    (s.activatePlan expected).2.recordWf := by
  refine .answered h ?_
  split
  · exact h
  · exact .answered h (.answered (h.same rfl rfl rfl) (h.same rfl rfl rfl))

theorem State.recordWf.setGain (h : s.recordWf) (track gain : Nat) : (s.setGain track gain).2.recordWf := by
  unfold State.setGain
  split
  · exact h
  · exact .ite (h.same rfl rfl rfl) (h.same rfl rfl rfl)

theorem State.recordWf.disableStore (h : s.recordWf) (p : Port) : (s.disableStore p).2.recordWf :=
  .answered h (h.same rfl rfl rfl)

theorem State.recordWf.storeSettings (h : s.recordWf) (p : Port) : (s.storeSettings p).2.recordWf :=
  .answered h (.answered h (h.same rfl rfl rfl))

/-- A setting reaches the record only by the Mark of a link that it switches (R190). -/
theorem State.recordWf.written (h : s.recordWf) {x : SettingName} {v : Nat} (ht : s.written x v = some t) :
    t.recordWf := by
  cases x with
  | bench => exact nomatch ht
  | threshold | attack | hangover | margin | challenge =>
    obtain ⟨w, _, rfl⟩ := Option.map_eq_some_iff.1 ht
    exact .ite (h.same rfl rfl rfl) (h.same rfl rfl rfl)
  | eligible k =>
    obtain ⟨w, _, rfl⟩ := Option.map_eq_some_iff.1 ht
    exact .ite (h.same rfl rfl rfl) (.ite (h.same rfl rfl rfl) (h.same rfl rfl rfl))
  | source =>
    obtain ⟨w, _, rfl⟩ := Option.map_eq_some_iff.1 ht
    have hwaits : State.recordWf { s with changes := { s.changes with source := none } } := h.same rfl rfl rfl
    exact .ite (h.same rfl rfl rfl) (hwaits.applySource w)
  | linkEnable n =>
    obtain ⟨w, _, rfl⟩ := Option.map_eq_some_iff.1 ht
    exact h.enableLink n w
  | fill | latency | lanes | retention | access | guard =>
    obtain ⟨w, _, rfl⟩ := Option.map_eq_some_iff.1 ht
    exact h.same rfl rfl rfl

theorem State.recordWf.writeSetting (h : s.recordWf) (id value : Nat) :
    (s.writeSetting id value).2.recordWf := by
  unfold State.writeSetting
  split
  · exact h
  · split
    · exact h
    · rename_i ht
      exact .answered h (h.written ht)

/-! ### Power, RESET and the store -/

/-- Readers at power-on or under RESET are detached, and the record is empty. -/
theorem State.recordWf_start (hr : s.ring = startRing) (hm : s.marks = startMarks)
    (hx : ∀ p, s.readers.get p = startReader) : s.recordWf :=
  State.recordWf_empty hr hm fun p => hx p ▸ State.readerWf_detached rfl rfl

theorem State.recordWf.completeLoad (h : s.recordWf) : s.completeLoad.recordWf := by
  unfold State.completeLoad
  dsimp only
  split
  · exact h.same rfl rfl rfl
  · exact h.same rfl rfl rfl

theorem State.recordWf.assertReset (h : s.recordWf) : s.assertReset.recordWf := by
  have hreset : ∀ u : State, u.underReset.recordWf := fun _ =>
    State.recordWf_start rfl rfl fun p => by cases p <;> rfl
  unfold State.assertReset
  split
  · exact h.same rfl rfl rfl
  · exact hreset s
  · exact hreset s.finishBoundary

theorem State.recordWf.completeStore (h : s.recordWf) : s.completeStore.recordWf := by
  unfold State.completeStore
  split
  · exact h
  · exact .ite (h.same rfl rfl rfl) (h.same rfl rfl rfl)

end Sys2Proof.Machine
end

section
/-! The record is kept by every command (O57), and every invariant holds right after reset (O56). -/

namespace Sys2Proof.Machine

variable {s t : State}

/-- A transfer is refused on a port whose Reader is detached (R134, R142). -/
theorem State.readBlockRefusal_none (s : State) (p : Port) {c : Byte} (h : s.readBlockRefusal p c = none) :
    (s.readers.get p).attached = true := by
  cases ha : (s.readers.get p).attached with
  | false => simp [State.readBlockRefusal, ha, ite_eq_iff] at h
  | true => rfl

theorem State.readMarksRefusal_none (s : State) (p : Port) {c : Byte} (h : s.readMarksRefusal p c = none) :
    (s.readers.get p).attached = true := by
  cases ha : (s.readers.get p).attached with
  | false => simp [State.readMarksRefusal, ha, ite_eq_iff] at h
  | true => rfl

/-- A READ_BLOCK that is not refused starts a transfer of what the Read Cursor names (R134). -/
theorem State.recordWf.readBlock (h : s.recordWf) (p : Port) (f : Frame) :
    (s.transferFrame p f (fun t c => t.readBlockRefusal p c)
      fun t c => t.blockDelivery p (decide (c.toNat = 1))).recordWf := by
  refine frameStable_recordWf.transferFrame_unrefused s p f _ _ (fun t c x ht hr hx => ?_) h
  have ha := t.readBlockRefusal_none p hr
  exact ht.launch p ha (t.blockDelivery_delivers p _ hx)

/-- A READ_MARKS that is not refused starts a transfer of what the Mark Cursor names (R142). -/
theorem State.recordWf.readMarks (h : s.recordWf) (p : Port) (f : Frame) :
    (s.transferFrame p f (fun t c => t.readMarksRefusal p c) fun t c => t.markDelivery p c.toNat).recordWf := by
  refine frameStable_recordWf.transferFrame_unrefused s p f _ _ (fun t c x ht hr hx => ?_) h
  have ha := t.readMarksRefusal_none p hr
  exact ht.launch p ha (ht.markDelivery_delivers p _ ha hx)

/-- Every command keeps the ring, the Mark List, the Readers and the Holds in agreement. -/
theorem State.recordWf.exec (h : s.recordWf) (i : Instr) : ∃ t, exec i s = .next t ∧ t.recordWf := by
  have hframe := frameStable_recordWf
  have hwrite := fun (p : Port) (f : Frame) (n : Nat) (act : State → List Byte → Result × State)
    (hact : ∀ t bs, t.recordWf → (act t bs).2.recordWf) => hframe.writeFrame s p f n hact h
  have hsettled := fun (p : Port) (f : Frame) (n : Nat) (act : State → List Byte → Result × State)
    (hact : ∀ t bs, t.recordWf → (t.readers.get p).flight = none → (act t bs).2.recordWf) =>
    hframe.writeFrame_settled s p f n hact h
  have hread := fun (p : Port) (f : Frame) (n : Nat) refusal data => hframe.readFrame s p f n refusal data h
  cases i with
  | powerOn => exact ⟨_, rfl, State.recordWf_start rfl rfl fun p => by cases p <;> rfl⟩
  | settingsLoadComplete => exact ⟨_, rfl, .ite h.completeLoad h⟩
  | powerLoss => exact ⟨_, rfl, State.recordWf_start rfl rfl fun p => by cases p <;> rfl⟩
  | resetAssert => exact ⟨_, rfl, .ite h h.assertReset⟩
  | resetRelease => exact ⟨_, rfl, .ite (h.same rfl rfl rfl) h⟩
  | samplePeriod edge levels => exact h.execSamplePeriod edge levels
  | linkFrame n x => exact ⟨_, rfl, .ite (h.receiveLink n x) h⟩
  | linkLock n x => exact ⟨_, rfl, h.receiveTransition n x _ _⟩
  | linkSeekTimeout n x => exact ⟨_, rfl, h.receiveTransition n x _ _⟩
  | linkRelock n x => exact ⟨_, rfl, h.receiveTransition n x _ _⟩
  | linkDown n x => exact ⟨_, rfl, h.receiveTransition n x _ _⟩
  | houseClockLoss =>
    have hexamined : s.examineHouse.recordWf := h.same rfl rfl rfl
    exact ⟨_, rfl, .ite hexamined.loseHouse h⟩
  | houseClockReturn =>
    have hexamined : s.examineHouse.recordWf := h.same rfl rfl rfl
    exact ⟨_, rfl, .ite (hexamined.setClockState _) (h.atBoundary _ fun _ => State.recordWf.takeReturn)⟩
  | benchLineAccept l => exact ⟨_, rfl, .ite (h.acceptLine l) h⟩
  | blockBoundary k => exact ⟨_, rfl, .ite (h.reachTurned k) h⟩
  | storeGapBlock => exact ⟨_, rfl, .ite h.finishBoundary.drainGap h⟩
  | pendingTargetTake => exact ⟨_, rfl, h.atBoundary _ fun _ => State.recordWf.takeTarget⟩
  | sessionClose => exact ⟨_, rfl, h.atBoundary _ fun _ => State.recordWf.closeNow⟩
  | sessionLengthLimit => exact ⟨_, rfl, h.atBoundary _ fun _ => State.recordWf.closeNow⟩
  | planActivate => exact ⟨_, rfl, h.atBoundary _ fun _ => State.recordWf.takeArmed⟩
  | pendingGainApply order => exact ⟨_, rfl, h.atBoundary _ fun _ hu => hu.takeGains order⟩
  | pendingSettingApply => exact ⟨_, rfl, .ite h.beginBoundary h⟩
  | clockSourceApply => exact ⟨_, rfl, h.atBoundary _ fun _ => State.recordWf.takeSource⟩
  | marksLostStore => exact ⟨_, rfl, .ite h.finishBoundary.drainLost h⟩
  | storeCompletion => exact ⟨_, rfl, h.completeStore⟩
  | zeroByteFrame => exact ⟨_, rfl, h⟩
  | frameDuringLoad p f =>
    exact ⟨_, rfl, .ite h (hframe.takeFrame s p _ _ _ (fun _ ht => ht.same rfl rfl rfl) h)⟩
  | shortFrame p f => exact ⟨_, rfl, .ite (hframe.takeFrame s p _ _ _ (fun _ ht => ht.same rfl rfl rfl) h) h⟩
  | unknownCommand p code f =>
    exact ⟨_, rfl, .ite (hframe.takeCommand s p f (fun _ ht => ht.same rfl rfl rfl) h) h⟩
  | status p f => exact ⟨_, rfl, hread p f _ _ _⟩
  | readEvents p f => exact ⟨_, rfl, hread p f _ _ _⟩
  | readHolds p f => exact ⟨_, rfl, hread p f _ _ _⟩
  | readPlan p f => exact ⟨_, rfl, hread p f _ _ _⟩
  | readTracks p f => exact ⟨_, rfl, hread p f _ _ _⟩
  | readLinks p f => exact ⟨_, rfl, hread p f _ _ _⟩
  | readSetting p f => exact ⟨_, rfl, hread p f _ _ _⟩
  | readBlock p f => exact ⟨_, rfl, h.readBlock p f⟩
  | readMarks p f => exact ⟨_, rfl, h.readMarks p f⟩
  | readBlockEnd p edges => exact ⟨_, rfl, hframe.riseOf s p true edges h⟩
  | readMarksEnd p edges => exact ⟨_, rfl, hframe.riseOf s p false edges h⟩
  | ackEvents p f => exact ⟨_, rfl, hwrite p f _ _ fun _ _ ht => ht.same rfl rfl rfl⟩
  | setMask p f => exact ⟨_, rfl, hwrite p f _ _ fun _ _ ht => ht.same rfl rfl rfl⟩
  | portReset p f => exact ⟨_, rfl, hwrite p f _ _ fun _ _ ht => ht.portReset p⟩
  | attach p f => exact ⟨_, rfl, hwrite p f _ _ fun _ _ ht => ht.attach p _⟩
  | detach p f => exact ⟨_, rfl, hsettled p f _ _ fun _ _ ht hf => ht.detach p hf⟩
  | release p f => exact ⟨_, rfl, hsettled p f _ _ fun _ _ ht hf => ht.release p _ hf⟩
  | seek p f => exact ⟨_, rfl, hsettled p f _ _ fun _ _ ht hf => ht.seek p _ hf⟩
  | setAvailLevel p f => exact ⟨_, rfl, hwrite p f _ _ fun _ _ ht => ht.setAvailLevel p _⟩
  | setLagLevel p f => exact ⟨_, rfl, hwrite p f _ _ fun _ _ ht => ht.setLagLevel p _⟩
  | placeHold p f => exact ⟨_, rfl, hwrite p f _ _ fun _ _ ht => ht.placeHold p _ _⟩
  | dropHold p f => exact ⟨_, rfl, hwrite p f _ _ fun _ _ ht => ht.dropHold p _⟩
  | addNote p f => exact ⟨_, rfl, hwrite p f _ _ fun _ _ ht => ht.addNote p _ _ _ _⟩
  | openSession p f => exact ⟨_, rfl, hwrite p f _ _ fun _ _ ht => ht.openSession p _⟩
  | closeSession p f => exact ⟨_, rfl, hwrite p f _ _ fun _ _ ht => ht.requestClose p⟩
  | setState p f => exact ⟨_, rfl, hwrite p f _ _ fun _ _ ht => ht.setState p _⟩
  | planClear p f => exact ⟨_, rfl, hwrite p f _ _ fun _ _ ht => ht.same rfl rfl rfl⟩
  | planSetGroup p f => exact ⟨_, rfl, hwrite p f _ _ fun _ _ ht => ht.planSetGroup p _ _ _ _⟩
  | planSetFormat p f => exact ⟨_, rfl, hwrite p f _ _ fun _ _ ht => ht.planSetFormat p _ _⟩
  | activatePlan p f => exact ⟨_, rfl, hwrite p f _ _ fun _ _ ht => ht.activatePlan _⟩
  | setGain p f => exact ⟨_, rfl, hwrite p f _ _ fun _ _ ht => ht.setGain _ _⟩
  | writeSetting p f => exact ⟨_, rfl, hwrite p f _ _ fun _ _ ht => ht.writeSetting _ _⟩
  | enableStore p f => exact ⟨_, rfl, hwrite p f _ _ fun _ _ ht => ht.same rfl rfl rfl⟩
  | disableStore p f => exact ⟨_, rfl, hwrite p f _ _ fun _ _ ht => ht.disableStore p⟩
  | storeSettings p f => exact ⟨_, rfl, hwrite p f _ _ fun _ _ ht => ht.storeSettings p⟩

/-- Settles O57: the front command by `State.recordWf.exec`; a freeing moves every claim that it reaches past the
Block (`recordWf.freeOldest`), and a command that moves a cursor meets its port with no transfer in flight
(`State.judge_settled`). -/
theorem recordKept : Obligations.RecordKept := by
  unfold Obligations.RecordKept
  intro s t h hstep
  unfold step at hstep
  split at hstep
  · cases hstep
    exact h
  · rename_i i rest _
    have hrest : State.recordWf { s with pending := rest } := h.same rfl rfl rfl
    obtain ⟨u, hu, hwf⟩ := hrest.exec i
    rw [hu] at hstep
    cases hstep
    exact hwf

/-! ### Right after reset -/

/-- Nothing waits, so nothing that waits is out of range (R188). -/
theorem noChanges_inRange : noChanges.inRange := by
  refine ⟨fun k v hv => ?_, fun k => ?_, nofun, nofun⟩
  · have hnone : noChanges.gain[k] = none := Vector.getElem_replicate k.isLt
    exact nomatch hnone.symm.trans hv
  · have hnone : noChanges.track[k] = ⟨none, none, none, none⟩ := Vector.getElem_replicate k.isLt
    rw [hnone]
    exact ⟨nofun, nofun, nofun⟩

/-- Settles O56: the record is empty, the settings are the factory defaults with nothing waiting, the floor is free
and the part is in CLOSED with no boundary open. -/
theorem invariantsAtReset : Obligations.InvariantsAtReset := by
  refine ⟨State.recordWf_start rfl rfl fun p => ?_, ⟨?_, ?_, nofun, noChanges_inRange⟩,
    State.samplesWf_empty rfl rfl, State.floorWf_free rfl,
    State.procWf_idle rfl (fun _ => ⟨rfl, rfl, rfl⟩) nofun (Nat.zero_le _)⟩
  · cases p <;> rfl
  · show defaultGeneral.inRange = true
    decide
  · show defaultPlan.fault = none
    decide

end Sys2Proof.Machine
end

section
/-! The flags of a Reader: Table 7.3, and the evaluation that sets AVAIL and LAG on a rise (R128 to R131, R133). -/

namespace Sys2Proof.Machine

/-! ### The five flags (Table 7.3) -/

section
variable (x : Reader) (n : Nat)

theorem Reader.flagsAt_attached (h : x.attached = true) : x.flagsAt n =
    { avail := decide (n - x.read > x.availLevel) && decide (x.pair = .complete)
      empty := decide (n - x.read = 0)
      half := decide (n - x.release ≥ 4096)
      lagWarn := decide (n - x.release + x.lagLevel ≥ 8192) && decide (x.pair = .complete)
      atFloor := decide (n - x.release = 8192) } := if_pos h

theorem Reader.flagsAt_detached (h : ¬x.attached = true) : x.flagsAt n = clearFlags := if_neg h

/-- The five flags of Table 7.3, with R133 for the two that need a complete Level Pair. -/
theorem Reader.flagsAt_iff :
    ((x.flagsAt n).avail = true ↔ x.state ≠ .detached ∧ x.pair = .complete ∧ n - x.read > x.availLevel) ∧
    ((x.flagsAt n).empty = true ↔ x.state ≠ .detached ∧ n - x.read = 0) ∧
    ((x.flagsAt n).half = true ↔ x.state ≠ .detached ∧ n - x.release ≥ 4096) ∧
    ((x.flagsAt n).lagWarn = true ↔
      x.state ≠ .detached ∧ x.pair = .complete ∧ n - x.release + x.lagLevel ≥ 8192) ∧
    ((x.flagsAt n).atFloor = true ↔ x.state ≠ .detached ∧ n - x.release = 8192) := by
  rw [← Reader.attached_iff]
  by_cases h : x.attached = true
  · rw [x.flagsAt_attached n h]
    simp [h, and_comm]
  · rw [x.flagsAt_detached n h]
    simp [h, clearFlags]

/-- A Reader in CUT is FOLLOWING again once it holds fewer than 4096 Blocks (R131). -/
theorem Reader.evaluated_state : (x.evaluated n).state =
    if x.state = .cut ∧ n - x.release < 4096 then .following else x.state := by
  have hhalf : x.state = .cut → ((x.flagsAt n).half = false ↔ n - x.release < 4096) := fun hc => by
    obtain ⟨-, -, hiff, -⟩ := x.flagsAt_iff n
    rw [← Bool.not_eq_true, hiff, hc]
    simp
  exact if_congr (and_congr_right hhalf) rfl rfl

end

/-! ### The evaluation (R129 to R131) -/

section
variable (s : State) (p : Port)

/-- An evaluation reaches its port's Reader and the Event Flags. -/
theorem State.evaluate_eq : s.evaluate p = { s with
    readers := s.readers.set p ((s.readers.get p).evaluated s.ring.next), events := (s.evaluate p).events } := by
  unfold State.evaluate
  dsimp only
  split <;> split <;> rfl

/-- An evaluation sets AVAIL and LAG on its own port, each as its flag rises (R130). -/
theorem State.evaluate_events (r : Port) : (s.evaluate p).events.get r = { s.events.get r with
    flags := (s.events.get r).flags |||
      (if r = p ∧ (((s.readers.get p).flagsAt s.ring.next).avail && !(s.readers.get p).flags.avail) = true
        then eventMask .avail else 0) |||
      (if r = p ∧ (((s.readers.get p).flagsAt s.ring.next).lagWarn && !(s.readers.get p).flags.lagWarn) = true
        then eventMask .lag else 0) } := by
  unfold State.evaluate
  dsimp only
  rw [State.raiseIf_events, State.raiseIf_events]
  rfl

end

/-- Settles O14: the flags by `Reader.flagsAt_iff`, the state by `Reader.evaluated_state`, the events by
`State.evaluate_events`. -/
theorem readerEvaluation : Obligations.ReaderEvaluation := by
  unfold Obligations.ReaderEvaluation
  intro s p t x y attached held
  have hother : otherPort p ≠ p := by cases p <;> decide
  have hreaders : t.readers = s.readers.set p (x.evaluated s.ring.next) := congrArg State.readers (s.evaluate_eq p)
  have hy : y = x.evaluated s.ring.next := by
    show t.readers.get p = _
    rw [hreaders, Both.get_set]
  have hevents : ∀ r, t.events.get r = _ := s.evaluate_events p
  obtain ⟨havail, hempty, hhalf, hlag, hfloor⟩ := x.flagsAt_iff s.ring.next
  rw [hy]
  refine ⟨?_, ?_, ?_, rfl, havail, hempty, hhalf, hlag, hfloor, x.evaluated_state s.ring.next, ?_, ?_⟩
  · rw [hreaders]
    exact s.evaluate_eq p
  · rw [hreaders, Both.get_set_other]
  · rw [hevents]
    simp [hother]
  · rw [hevents]
  · rw [hevents]
    simp [x, Reader.evaluated]

end Sys2Proof.Machine
end

section
/-! The write commands of the Reader Contexts: ATTACH, DETACH, the level pair, RELEASE and SEEK (R126, R127, R132, R133,
R140, R141). -/

namespace Sys2Proof.Machine

theorem exec_attach (p : Port) (f : Frame) (s : State) : exec (.attach p f) s =
    .next (s.writeFrame p f 1 fun t bs => t.attach p (param bs 0)) := rfl

theorem exec_detach (p : Port) (f : Frame) (s : State) : exec (.detach p f) s =
    .next (s.writeFrame p f 0 fun t _ => t.detach p) := rfl

theorem exec_setAvailLevel (p : Port) (f : Frame) (s : State) : exec (.setAvailLevel p f) s =
    .next (s.writeFrame p f 2 fun t bs => t.setAvailLevel p (number bs 0 2)) := rfl

theorem exec_setLagLevel (p : Port) (f : Frame) (s : State) : exec (.setLagLevel p f) s =
    .next (s.writeFrame p f 2 fun t bs => t.setLagLevel p (number bs 0 2)) := rfl

theorem exec_release (p : Port) (f : Frame) (s : State) : exec (.release p f) s =
    .next (s.writeFrame p f 4 fun t bs => t.release p (number bs 0 4)) := rfl

theorem exec_seek (p : Port) (f : Frame) (s : State) : exec (.seek p f) s =
    .next (s.writeFrame p f 5 fun t bs => t.seek p (number bs 0 5)) := rfl

/-- A write command whose parameters are one number that fits them (R172, R198). -/
theorem State.writeFrame_number (s : State) (p : Port) (f : Frame) {n v : Nat}
    {act : State → Nat → Result × State} {r : Result} {t : State} (htakes : s.takes p f)
    (hhears : s.hears p f (le n v)) (hv : v < 256 ^ n) (hact : act (s.shifted p f) v = (r, t)) :
    s.writeFrame p f n (fun u bs => act u (number bs 0 n)) = t.setResult p r := by
  have hread : act (s.shifted p f) (number (le n v) 0 n) = (r, t) := by rw [number_le n v hv, hact]
  have h := s.writeFrame_answers p f (act := fun u bs => act u (number bs 0 n)) htakes hhears hread
  rwa [le_length] at h

theorem Reader.attached_eq_false {x : Reader} (h : x.state = .detached) : x.attached = false := by
  rw [Reader.attached, h]

theorem byte_toNat_eq_one (c : Byte) : c.toNat = 1 ↔ c = 1 :=
  ⟨fun h => BitVec.eq_of_toNat_eq h, fun h => by rw [h]; rfl⟩

/-! ### ATTACH and DETACH (R126, R127) -/

/-- An attached Reader at these cursors, before its flags are evaluated (Table 7.2). -/
def Reader.attachedAt (x : Reader) (retention : Retention) (cursor mark : Nat) : Reader :=
  { x with
    state := .following, retention := some retention, read := cursor, release := cursor, mark := mark
    skipped := 0, missed := 0, flags := clearFlags }

section
variable (s : State) (p : Port)

theorem State.attach_range {c : Byte} (h : c.toNat > 1) : s.attach p c = (.range, s) := if_pos h

theorem State.attach_inRange {c : Byte} (h : c.toNat ≤ 1) : s.attach p c =
    if (s.readers.get p).pair ≠ .complete then (.thresholds, s)
    else if (s.readers.get p).attached then (.already, s)
    else (.ok, s.attachAt p (decide (c.toNat = 1))) := if_neg h.not_gt

/-- Code 1 attaches at the newest end of the record, code 0 at its oldest (Table 7.2). -/
theorem State.attachAt_eq (c : Byte) : s.attachAt p (decide (c.toNat = 1)) =
    (s.setReader p ((s.readers.get p).attachedAt (s.settings.guarded.retention.get p)
      (if c = 1 then s.ring.next else s.ring.oldest)
      (if c = 1 then s.marks.next else s.marks.oldest))).evaluate p := by
  by_cases hc : c = 1
  · rw [decide_eq_true ((byte_toNat_eq_one c).2 hc), if_pos hc, if_pos hc]
    rfl
  · rw [decide_eq_false (mt (byte_toNat_eq_one c).1 hc), if_neg hc, if_neg hc]
    rfl

theorem State.detach_detached (h : (s.readers.get p).state = .detached) : s.detach p = (.already, s) :=
  if_neg fun ha => (Reader.attached_iff _).1 ha h

theorem State.detach_attached (h : (s.readers.get p).state ≠ .detached) : s.detach p =
    (.ok, (s.setReader p { s.readers.get p with
      state := .detached, retention := none, flags := clearFlags }).drainGap.drainLost) :=
  if_pos ((Reader.attached_iff _).2 h)

end

/-- Settles O13: the tests by the branches of `State.attach` and `State.detach`, the cursors by `State.attachAt_eq`. -/
theorem attachAndDetach : Obligations.AttachAndDetach := by
  unfold Obligations.AttachAndDetach
  refine ⟨fun p f c s htakes hhears => ?_, fun p f s htakes hbare => ?_⟩
  · have hanswer : ∀ {r t}, (s.shifted p f).attach p c = (r, t) →
        exec (.attach p f) s = .next (t.setResult p r) := fun h =>
      (exec_attach p f s).trans (congrArg _ (s.writeFrame_answers p f htakes hhears h))
    have hcode : c.toNat ≤ 1 → _ := fun h => (s.shifted p f).attach_inRange p h
    refine ⟨fun hc => hanswer ((s.shifted p f).attach_range p hc),
      fun hc hpair => hanswer ((hcode hc).trans (if_pos hpair)), fun hc hpair hs => ?_, fun hc hpair hs => ?_⟩
    all_goals have hcomplete := (hcode hc).trans (if_neg (not_not.2 hpair))
    · exact hanswer (hcomplete.trans (if_pos ((Reader.attached_iff _).2 hs)))
    · refine hanswer (hcomplete.trans ((if_neg fun ha => (Reader.attached_iff _).1 ha hs).trans ?_))
      rw [State.attachAt_eq]
      rfl
  · have hanswer : ∀ {r t}, (s.shifted p f).detach p = (r, t) →
        exec (.detach p f) s = .next (t.setResult p r) := fun h => by
      rw [exec_detach, s.writeFrame_bare p f _ htakes hbare, h]
    exact ⟨fun hs => hanswer ((s.shifted p f).detach_detached p hs),
      fun hs => hanswer ((s.shifted p f).detach_attached p hs)⟩

/-! ### The level pair (R132, R133) -/

/-- A level above 8191 is taken as 8191 (R132). -/
theorem min_level (v : Nat) : min v 8191 = if v > 8191 then 8191 else v := by
  split <;> omega

/-- Settles O15: the level taken by `min_level`, the pair state by Table 7.4. -/
theorem levelPair : Obligations.LevelPair := by
  unfold Obligations.LevelPair
  intro p f v s htakes hv hhears x
  refine ⟨(exec_setAvailLevel p f s).trans (congrArg _ ?_), (exec_setLagLevel p f s).trans (congrArg _ ?_)⟩
  · rw [s.writeFrame_number p f htakes hhears hv (act := fun t v => t.setAvailLevel p v) rfl, min_level]
    rfl
  · rw [s.writeFrame_number p f htakes hhears hv (act := fun t v => t.setLagLevel p v) rfl, min_level]
    rfl

/-! ### RELEASE and SEEK (R140, R141) -/

section
variable (s : State) (p : Port) {q : Nat}

theorem State.release_detached (h : (s.readers.get p).state = .detached) :
    s.release p q = (.notAttached, s) :=
  if_pos (by rw [Reader.attached_eq_false h]; rfl)

theorem State.release_attached (h : (s.readers.get p).state ≠ .detached) : s.release p q =
    if q + 1 ≤ (s.readers.get p).release then (.already, s)
    else (if q + 1 ≤ (s.readers.get p).read then .ok else .clamped,
      ((s.setReader p { s.readers.get p with
        release := min (q + 1) (s.readers.get p).read }).evaluate p).drainGap) :=
  if_neg (by simpa using (Reader.attached_iff _).2 h)

/-- The Release Cursor moves past the Sequence, as far as the Read Cursor reaches (R140). -/
theorem State.release_forward (h : (s.readers.get p).state ≠ .detached)
    (hlt : (s.readers.get p).release < q + 1) (hread : q + 1 ≤ (s.readers.get p).read) : s.release p q =
    (.ok, ((s.setReader p { s.readers.get p with release := q + 1 }).evaluate p).drainGap) := by
  rw [s.release_attached p h, if_neg hlt.not_ge, if_pos hread, min_eq_left hread]

theorem State.release_clamped (h : (s.readers.get p).state ≠ .detached)
    (hlt : (s.readers.get p).release < q + 1) (hread : (s.readers.get p).read < q + 1) : s.release p q =
    (.clamped, ((s.setReader p { s.readers.get p with release := (s.readers.get p).read }).evaluate p).drainGap) := by
  rw [s.release_attached p h, if_neg hlt.not_ge, if_neg hread.not_ge, min_eq_right hread.le]

theorem State.seek_detached (h : (s.readers.get p).state = .detached) :
    s.seek p q = (.notAttached, s) :=
  if_pos (by rw [Reader.attached_eq_false h]; rfl)

theorem State.seek_attached (h : (s.readers.get p).state ≠ .detached) : s.seek p q =
    if q < s.ring.oldest then (.released, s)
    else if q > s.ring.next then (.range, s)
    else (.ok, (s.setReader p { s.readers.get p with
      read := q, release := min (s.readers.get p).release q }).evaluate p) :=
  if_neg (by simpa using (Reader.attached_iff _).2 h)

/-- The Read Cursor goes to the Sequence and takes the Release Cursor back with it (R141). -/
theorem State.seek_stored (h : (s.readers.get p).state ≠ .detached) (hle : s.ring.oldest ≤ q)
    (hnext : q ≤ s.ring.next) : s.seek p q =
    (.ok, (s.setReader p { s.readers.get p with
      read := q
      release := if q < (s.readers.get p).release then q else (s.readers.get p).release }).evaluate p) := by
  rw [s.seek_attached p h, if_neg hle.not_gt, if_neg hnext.not_gt, min_comm, min_def_lt]

end

/-- Settles O16: the tests by the branches of `State.release` and `State.seek`, the cursors as the lower of two. -/
theorem releaseAndSeek : Obligations.ReleaseAndSeek := by
  unfold Obligations.ReleaseAndSeek
  refine ⟨?_, ?_⟩
  · intro p f q s htakes hq hhears x
    have hanswer : ∀ {r t}, (s.shifted p f).release p q = (r, t) →
        exec (.release p f) s = .next (t.setResult p r) := fun h =>
      (exec_release p f s).trans (congrArg _
        (s.writeFrame_number p f (act := fun t v => t.release p v) htakes hhears hq h))
    have hattached : x.state ≠ .detached → _ := (s.shifted p f).release_attached p (q := q)
    exact ⟨fun hs => hanswer ((s.shifted p f).release_detached p hs),
      fun hs hle => hanswer ((hattached hs).trans (if_pos hle)),
      fun hs hlt hread => hanswer ((s.shifted p f).release_forward p hs hlt hread),
      fun hs hlt hread => hanswer ((s.shifted p f).release_clamped p hs hlt hread)⟩
  · intro p f q s htakes hq hhears x oldest
    have hanswer : ∀ {r t}, (s.shifted p f).seek p q = (r, t) →
        exec (.seek p f) s = .next (t.setResult p r) := fun h =>
      (exec_seek p f s).trans (congrArg _
        (s.writeFrame_number p f (act := fun t v => t.seek p v) htakes hhears hq h))
    have hattached : x.state ≠ .detached → _ := (s.shifted p f).seek_attached p (q := q)
    exact ⟨fun hs => hanswer ((s.shifted p f).seek_detached p hs),
      fun hs hlt => hanswer ((hattached hs).trans (if_pos hlt)),
      fun hs hle hgt => hanswer ((hattached hs).trans ((if_neg hle.not_gt).trans (if_pos hgt))),
      fun hs hle hnext => hanswer ((s.shifted p f).seek_stored p hs hle hnext)⟩

end Sys2Proof.Machine
end

section
/-! READ_BLOCK and READ_MARKS: their refusals and the transfers that they put in flight, the outcomes of those transfers
at the chip-select rise, and the bytes that go out of one (R134 to R138, R142 to R145, R167, R174). -/

namespace Sys2Proof.Machine

theorem exec_readBlock (p : Port) (f : Frame) (s : State) : exec (.readBlock p f) s =
    .next (s.transferFrame p f (fun t c => t.readBlockRefusal p c)
      fun t c => t.blockDelivery p (decide (c.toNat = 1))) := rfl

theorem exec_readMarks (p : Port) (f : Frame) (s : State) : exec (.readMarks p f) s =
    .next (s.transferFrame p f (fun t c => t.readMarksRefusal p c) fun t c => t.markDelivery p c.toNat) := rfl

/-! ### Refusals (R134, R142) -/

section
variable (s : State) (p : Port) {c : Byte}

theorem State.readBlockRefusal_range (h : c.toNat > 1) : s.readBlockRefusal p c = some .range := if_pos h

theorem State.readBlockRefusal_detached (h : c.toNat ≤ 1) (hs : (s.readers.get p).state = .detached) :
    s.readBlockRefusal p c = some .notAttached :=
  (if_neg h.not_gt).trans (if_pos (by rw [Reader.attached_eq_false hs]; rfl))

theorem State.readBlockRefusal_attached (h : c.toNat ≤ 1) (hs : (s.readers.get p).state ≠ .detached) :
    s.readBlockRefusal p c = none :=
  (if_neg h.not_gt).trans (if_neg (by rw [(Reader.attached_iff _).2 hs]; decide))

theorem State.readMarksRefusal_range (h : c.toNat = 0 ∨ c.toNat > 16) :
    s.readMarksRefusal p c = some .range := if_pos h

theorem State.readMarksRefusal_detached (h : 1 ≤ c.toNat) (h' : c.toNat ≤ 16)
    (hs : (s.readers.get p).state = .detached) : s.readMarksRefusal p c = some .notAttached :=
  (if_neg (by omega)).trans (if_pos (by rw [Reader.attached_eq_false hs]; rfl))

theorem State.readMarksRefusal_attached (h : 1 ≤ c.toNat) (h' : c.toNat ≤ 16)
    (hs : (s.readers.get p).state ≠ .detached) : s.readMarksRefusal p c = none :=
  (if_neg (by omega)).trans (if_neg (by rw [(Reader.attached_iff _).2 hs]; decide))

end

/-! ### What a READ_BLOCK delivers (R134 to R136) -/

section
variable (s : State) (p : Port) (whole : Bool)

theorem State.blockDelivery_nothing (h : s.ring.next - (s.readers.get p).read = 0) :
    s.blockDelivery p whole = (.emptyReply, noneHeader) := if_neg (Nat.not_lt.2 h.le)

theorem State.blockDelivery_stored {b : Block} (h : s.ring.next - (s.readers.get p).read > 0)
    (hb : s.ring.blockAt (s.readers.get p).read = some b) : s.blockDelivery p whole =
    (.block (s.readers.get p).read, b.bytes (s.settings.guarded.access.get p) whole) := by
  refine (if_pos h).trans ?_
  rw [hb]

end

/-- Settles O17: `State.transferFrame` by what `State.readBlockRefusal` answers, the bytes by `State.blockDelivery`. -/
theorem readBlockBegins : Obligations.ReadBlockBegins := by
  unfold Obligations.ReadBlockBegins
  intro p f s htakes m c x start hparam
  rw [exec_readBlock]
  refine ⟨fun hc => ?_, fun hc hs => ?_, fun hc hs hearly => ?_, fun hc hs hbegun => ?_⟩
  · rw [s.transferFrame_refused p f .range _ _ htakes hparam (s.readBlockRefusal_range p hc)]
  · rw [s.transferFrame_refused p f .notAttached _ _ htakes hparam (s.readBlockRefusal_detached p hc hs)]
  · rw [s.transferFrame_early p f _ _ htakes hparam (s.readBlockRefusal_attached p hc hs) hearly]
  · rw [s.transferFrame_begun p f _ _ htakes hparam (s.readBlockRefusal_attached p hc hs) hbegun]
    refine ⟨_, _, rfl, fun hnone => ?_, fun b havail hb => ?_⟩
    · rw [s.blockDelivery_nothing p _ hnone]
      exact ⟨rfl, rfl⟩
    · rw [s.blockDelivery_stored p _ havail hb, decide_eq_decide.2 (byte_toNat_eq_one _)]
      exact ⟨rfl, rfl⟩

/-! ### What a READ_MARKS delivers (R142, R145, R200) -/

theorem Mark.bytes_length (m : Mark) (access : Access) : (m.bytes access).length = 32 := by
  simp [Mark.bytes]

theorem padTo_exact {n : Nat} {xs : List Byte} (h : xs.length = n) : padTo n xs = xs := by
  rw [padTo, List.take_of_length_le h.le, h, Nat.sub_self, List.replicate_zero, List.append_nil]

/-- Of Marks in serial order, those from a serial on are the last ones (R142, R152). -/
theorem filter_serial_from (first : Nat) (ms : List Mark) (start : Nat)
    (h : ms.map Mark.serial = List.range' start ms.length) :
    (ms.filter fun m => decide (first ≤ m.serial)) = ms.drop (first - start) := by
  induction ms generalizing start with
  | nil => simp
  | cons m ms ih =>
    rw [List.map_cons, List.length_cons, List.range'_succ, List.cons.injEq] at h
    obtain ⟨hm, hms⟩ := h
    rw [List.filter_cons, ih (start + 1) hms, hm]
    by_cases hle : first ≤ start
    · rw [if_pos (decide_eq_true hle), Nat.sub_eq_zero_of_le hle, Nat.sub_eq_zero_of_le (by omega)]
      rfl
    · rw [if_neg (by simpa using hle), show first - start = first - (start + 1) + 1 by omega, List.drop_succ_cons]

theorem State.markDelivery_length (s : State) (p : Port) (most : Nat) :
    (s.markDelivery p most).2.length = 1 + 32 * min most (s.marks.next - (s.readers.get p).mark) := by
  rw [State.markDelivery, List.length_cons, padTo_length, Nat.add_comm]

/-- With a Mark Cursor in the list, the entries of the Marks from it on, each whole (R142, R152). -/
theorem State.markDelivery_entries (s : State) (p : Port) (most : Nat) (hwf : s.marks.wf)
    (hold : s.marks.oldest ≤ (s.readers.get p).mark) : (s.markDelivery p most).2 =
      BitVec.ofNat 8 (min most (s.marks.next - (s.readers.get p).mark)) ::
        ((s.marks.marks.drop ((s.readers.get p).mark - s.marks.oldest)).take
          (min most (s.marks.next - (s.readers.get p).mark))).flatMap
          fun m => m.bytes (s.settings.guarded.access.get p) := by
  obtain ⟨_, hlen, hrun⟩ := hwf
  rw [State.markDelivery, State.marksFrom, filter_serial_from _ _ _ hrun, padTo_exact]
  · rfl
  · rw [MarkList.oldest] at hold
    simp [List.length_flatMap, Mark.bytes_length, MarkList.oldest]
    omega

/-! ### The outcome of a transfer (R136, R137, R143) -/

section
variable {t : Transfer}

theorem Transfer.complete_iff : t.complete = true ↔
    t.edges % t.lanes.edgesPerByte = 0 ∧ t.payload.length ≤ t.edges / t.lanes.edgesPerByte := decide_eq_true_iff

theorem Transfer.outcome_emptyReply (h : t.delivery = .emptyReply) : t.outcome = .empty := by
  rw [Transfer.outcome, h]

theorem Transfer.outcome_noMarks {first : Nat} (h : t.delivery = .marks first 0) : t.outcome = .empty := by
  rw [Transfer.outcome, h]
  rfl

/-- The transfer delivers a Block, or one Mark or more. -/
def Transfer.requests (t : Transfer) : Prop :=
  (∃ q, t.delivery = .block q) ∨ ∃ first count, t.delivery = .marks first count ∧ 0 < count

/-- A transfer of a Block and one of Marks are judged alike. -/
theorem Transfer.outcome_requested (h : t.requests) : t.outcome =
    if t.overtaken.isSome then .overtaken else if t.complete then .ok else .partialRead := by
  unfold Transfer.outcome
  obtain ⟨q, hq⟩ | ⟨first, count, hm, hpos⟩ := h
  · rw [hq]
  · rw [hm]
    exact if_neg hpos.ne'

end

/-! ### The chip-select rise (R137, R143) -/

section
variable (s : State) (p : Port) {t : Transfer}

/-- A transfer that is not OK moves no cursor. -/
theorem State.endTransfer_kept {r : Result} (h : t.outcome = r) (hr : r ≠ .ok) :
    s.endTransfer p t = s.afterRise p t r := by
  unfold State.endTransfer
  rw [h]
  exact if_neg hr

theorem State.endTransfer_ok (h : t.outcome = .ok) :
    s.endTransfer p t = (s.afterRise p t .ok).delivered p t.delivery := by
  unfold State.endTransfer
  rw [h]
  exact if_pos rfl

theorem State.afterRise_reader (r : Result) :
    (s.afterRise p t r).readers.get p = { s.readers.get p with flight := none } := Both.get_set _ _ _

theorem State.endTransfer_overtaken (h : t.requests) (ho : t.overtaken.isSome) :
    s.endTransfer p t = s.afterRise p t .overtaken :=
  s.endTransfer_kept p ((Transfer.outcome_requested h).trans (if_pos ho)) nofun

/-- A complete delivery alone moves a cursor. -/
theorem State.endTransfer_complete (h : t.requests) (ho : t.overtaken = none)
    (hc : t.edges % t.lanes.edgesPerByte = 0 ∧ t.payload.length ≤ t.edges / t.lanes.edgesPerByte) :
    s.endTransfer p t = (s.afterRise p t .ok).delivered p t.delivery := by
  have houtcome := Transfer.outcome_requested h
  rw [ho] at houtcome
  exact s.endTransfer_ok p (houtcome.trans (if_pos (Transfer.complete_iff.2 hc)))

theorem State.endTransfer_partial (h : t.requests) (ho : t.overtaken = none)
    (hc : ¬(t.edges % t.lanes.edgesPerByte = 0 ∧ t.payload.length ≤ t.edges / t.lanes.edgesPerByte)) :
    s.endTransfer p t = s.afterRise p t .partialRead := by
  have houtcome := Transfer.outcome_requested h
  rw [ho] at houtcome
  exact s.endTransfer_kept p (houtcome.trans (if_neg (mt Transfer.complete_iff.1 hc))) nofun

end

/-- Settles O19: the transfer by `State.markDelivery_entries`, its outcome as `State.endTransfer` gives it. -/
theorem readMarks : Obligations.ReadMarks := by
  unfold Obligations.ReadMarks
  refine ⟨?_, ?_⟩
  · intro p f s htakes m c x start hparam
    rw [exec_readMarks]
    refine ⟨fun hc => ?_, fun hc hc' hs => ?_, fun hc hc' hs hearly => ?_, fun hc hc' hs hbegun => ?_⟩
    · rw [s.transferFrame_refused p f .range _ _ htakes hparam (s.readMarksRefusal_range p hc)]
    · rw [s.transferFrame_refused p f .notAttached _ _ htakes hparam (s.readMarksRefusal_detached p hc hc' hs)]
    · rw [s.transferFrame_early p f _ _ htakes hparam (s.readMarksRefusal_attached p hc hc' hs) hearly]
    · rw [s.transferFrame_begun p f _ _ htakes hparam (s.readMarksRefusal_attached p hc hc' hs) hbegun]
      exact ⟨_, _, rfl, rfl, s.markDelivery_length p c, rfl, rfl,
        fun hwf hold _ => s.markDelivery_entries p c hwf hold⟩
  · intro p more first k t₀ s hpower hreset hidle hflight hmarks t whole
    have hrise : exec (.readMarksEnd p more) s = .next (s.endTransfer p t) := by
      rw [exec_readMarksEnd, s.riseOf_flight p false more t₀ (s.live_iff.2 ⟨hpower, hreset⟩) hidle hflight
        (by rw [hmarks]; rfl)]
    have hdelivery : t.delivery = .marks first k := hmarks
    have hrequested : 0 < k → t.requests := fun hk => .inr ⟨first, k, hdelivery, hk⟩
    rw [hrise]
    refine ⟨fun hk => congrArg _ (s.endTransfer_kept p (Transfer.outcome_noMarks (hk ▸ hdelivery)) nofun),
      fun hk ho => congrArg _ (s.endTransfer_overtaken p (hrequested hk) ho), fun hk ho hw => ?_,
      fun hk ho hw => congrArg _ (s.endTransfer_partial p (hrequested hk) ho hw)⟩
    rw [s.endTransfer_complete p (hrequested hk) ho hw, hdelivery, State.delivered, State.afterRise_reader]

/-! ### The bytes of a transfer (R135, R138, R142, R144, R167) -/

theorem edgesPerByte_pos (w : LaneWidth) : 0 < w.edgesPerByte := by
  cases w <;> decide

/-- The bits of a byte that were sent before the rest of it became another's (R138, R144). -/
theorem joinBits_sent_bit {sent m : Nat} (old new : Byte) (hm : m < 8) (hs : m < sent) :
    (joinBits sent old new).getLsbD (7 - m) = old.getLsbD (7 - m) := by
  have hmask : (0xFF#8 >>> sent).getLsbD (7 - m) = false := by
    rw [BitVec.getLsbD_ushiftRight]
    exact BitVec.getLsbD_of_ge _ _ (by omega)
  simp only [joinBits, BitVec.getLsbD_or, BitVec.getLsbD_and, BitVec.getLsbD_not, hmask,
    show 7 - m < 8 by omega, decide_true, Bool.not_false, Bool.and_true, Bool.and_false, Bool.or_false]

section
variable (t : Transfer) {i cut : Nat}

theorem Transfer.byteOut_own (h : t.overtaken = none) : t.byteOut i = t.payload.getD i 0 := by
  simp only [Transfer.byteOut, h]

theorem Transfer.byteOut_overtaken (h : t.overtaken = some cut) : t.byteOut i =
    if i < cut / t.lanes.edgesPerByte ∨ t.payload.length ≤ i then t.payload.getD i 0
    else if i = cut / t.lanes.edgesPerByte ∧ cut % t.lanes.edgesPerByte ≠ 0 then
      joinBits (partLength t.lanes cut) (t.payload.getD i 0)
        (Config.tornByte (t.payload.getD i 0) (cut % t.lanes.edgesPerByte))
    else 0 := by
  simp only [Transfer.byteOut, h]
  rfl

/-- A byte beyond the requested ones is 00H (R135, R142). -/
theorem Transfer.byteOut_beyond (h : t.payload.length ≤ i) : t.byteOut i = 0 := by
  have hown : t.payload.getD i 0 = 0 := by
    rw [List.getD_eq_getElem?_getD, List.getElem?_eq_none h, Option.getD_none]
  cases ho : t.overtaken with
  | none => rw [t.byteOut_own ho, hown]
  | some cut => rw [t.byteOut_overtaken ho, if_pos (.inr h), hown]

/-- A byte that was whole before the overtaking is its own (R138, R144). -/
theorem Transfer.byteOut_before (h : t.overtaken = some cut) (hi : (i + 1) * t.lanes.edgesPerByte ≤ cut) :
    t.byteOut i = t.payload.getD i 0 := by
  have hlt : i < cut / t.lanes.edgesPerByte :=
    Nat.lt_of_succ_le ((Nat.le_div_iff_mul_le (edgesPerByte_pos t.lanes)).2 hi)
  rw [t.byteOut_overtaken h, if_pos (.inl hlt)]

/-- A byte that begins after the overtaking is 00H (R138, R144). -/
theorem Transfer.byteOut_after (h : t.overtaken = some cut) (hi : cut ≤ i * t.lanes.edgesPerByte) :
    t.byteOut i = 0 := by
  obtain hlen | hlen := le_or_gt t.payload.length i
  · exact t.byteOut_beyond hlen
  · have hle : cut / t.lanes.edgesPerByte ≤ i := Nat.div_le_of_le_mul (by rwa [Nat.mul_comm])
    have hwhole : ¬(i = cut / t.lanes.edgesPerByte ∧ cut % t.lanes.edgesPerByte ≠ 0) := by
      rintro ⟨rfl, hpart⟩
      have := Nat.div_add_mod' cut t.lanes.edgesPerByte
      omega
    rw [t.byteOut_overtaken h, if_neg (by omega), if_neg hwhole]

/-- The bits already sent of the byte half out at the overtaking are its own (log entry 13). -/
theorem Transfer.byteOut_torn {j : Nat} (h : t.overtaken = some cut) (hi : i = cut / t.lanes.edgesPerByte)
    (hj : j < partLength t.lanes cut) :
    (t.byteOut i).getLsbD (7 - j) = (t.payload.getD i 0).getLsbD (7 - j) := by
  obtain hlen | hlen := le_or_gt t.payload.length i
  · rw [t.byteOut_overtaken h, if_pos (.inr hlen)]
  · have hpart : cut % t.lanes.edgesPerByte ≠ 0 := fun h0 => by
      rw [partLength, h0, Nat.zero_mul] at hj
      exact Nat.not_lt_zero j hj
    rw [t.byteOut_overtaken h, if_neg (by omega), if_pos ⟨hi, hpart⟩]
    exact joinBits_sent_bit _ _ (hj.trans (partLength_lt t.lanes cut)) hj

theorem Transfer.dataOut_length : t.dataOut.length = t.edges / t.lanes.edgesPerByte := by
  rw [Transfer.dataOut, List.length_map, List.length_range]
  rfl

theorem Transfer.dataOut_getElem? (h : i < t.edges / t.lanes.edgesPerByte) :
    t.dataOut[i]? = some (some (t.byteOut i)) := by
  have hi : i < t.bytesOf t.edges := h
  rw [Transfer.dataOut, List.getElem?_map, List.getElem?_range hi]
  rfl

end

/-- Settles O18: the outcome as `State.endTransfer` gives it, the bytes by the cases of `Transfer.byteOut`. -/
theorem readBlockEnds : Obligations.ReadBlockEnds := by
  unfold Obligations.ReadBlockEnds
  refine ⟨?_, ?_⟩
  · intro p more t₀ s hpower hreset hidle hflight t whole read
    have hblock : t.delivery = .emptyReply ∨ (∃ q, t.delivery = .block q) →
        exec (.readBlockEnd p more) s = .next (s.endTransfer p t) := fun h => by
      have hkind : t₀.delivery.isBlock = true := by
        obtain h | ⟨q, h⟩ := h <;> exact (congrArg Delivery.isBlock h).trans rfl
      rw [exec_readBlockEnd, s.riseOf_flight p true more t₀ (s.live_iff.2 ⟨hpower, hreset⟩) hidle hflight hkind]
    refine ⟨fun hd => ?_, fun q hd => ?_⟩
    · rw [hblock (.inl hd), s.endTransfer_kept p (Transfer.outcome_emptyReply hd) nofun]
    · rw [hblock (.inr ⟨q, hd⟩)]
      have hrequested : t.requests := .inl ⟨q, hd⟩
      refine ⟨fun ho => congrArg _ (s.endTransfer_overtaken p hrequested ho), fun ho hw => ?_,
        fun ho hw => congrArg _ (s.endTransfer_partial p hrequested ho hw)⟩
      rw [s.endTransfer_complete p hrequested ho hw, hd, State.delivered, State.afterRise_reader]
  · intro t clocked
    exact ⟨t.dataOut_length, fun i hi => t.dataOut_getElem? hi, rfl, fun ho i => t.byteOut_own ho,
      fun i hi => t.byteOut_beyond hi, fun cut ho i => ⟨t.byteOut_before ho, t.byteOut_after ho,
        fun hi j hj => t.byteOut_torn ho hi hj⟩⟩

end Sys2Proof.Machine
end

section
/-! What a port whose Restricted Access is DENIED receives of a RESTRICTED Block, of a RESTRICTED Mark, and in
READ_TRACKS (R58, R139, R145). -/

namespace Sys2Proof.Machine

/-! ### Blocks (R139, Table 7.5) -/

/-- Withheld entries tell their Source States alone. -/
theorem map_withheld_eq {xs ys : List TrackEntry}
    (h : xs.map TrackEntry.source = ys.map TrackEntry.source) :
    xs.map TrackEntry.withheld = ys.map TrackEntry.withheld := by
  have hfrom : ∀ es : List TrackEntry, es.map TrackEntry.withheld =
      (es.map TrackEntry.source).map fun source => ⟨source, .quiet, 0, 0⟩ := fun es =>
    (List.map_map (g := fun source => (⟨source, .quiet, 0, 0⟩ : TrackEntry)) (f := TrackEntry.source)).symm
  rw [hfrom, hfrom, h]

section
variable {b : Block}

theorem Block.bytes_withheld (whole : Bool) (h : b.cls = .restricted) : b.bytes .denied whole =
    b.withheldCopy.header true ++ if whole then b.withheldCopy.bodyBytes else [] := by
  have hw : b.isWithheld .denied = true := decide_eq_true ⟨h, rfl⟩
  rw [Block.bytes, Block.seenBy, hw, if_pos rfl]

theorem Block.bytes_shown (access : Access) (whole : Bool) (h : ¬(b.cls = .restricted ∧ access = .denied)) :
    b.bytes access whole = b.header false ++ if whole then b.bodyBytes else [] := by
  have hw : b.isWithheld access = false := decide_eq_false h
  rw [Block.bytes, Block.seenBy, hw, if_neg nofun]

/-- The withheld copy depends on no holder, no sample, and of the entries on the Source States alone. -/
theorem Block.withheldCopy_eq {c : Block}
    (h : c = { b with holder := c.holder, entries := c.entries, body := c.body })
    (he : c.entries.map TrackEntry.source = b.entries.map TrackEntry.source) :
    b.withheldCopy = c.withheldCopy := by
  rw [h, Block.withheldCopy, Block.withheldCopy, map_withheld_eq he]

end

/-! ### Marks (R145) -/

section
variable {m : Mark}

/-- Of a withheld Mark's argument and tag nothing goes out but whether there is a tag, in the flag byte. -/
theorem Mark.bytes_withheld (h : m.restricted = true) : m.bytes .denied =
    le 6 m.serial ++ [markKindCode m.kind, partyCode m.origin] ++ le 6 m.time ++ le 4 (m.block.getD 0) ++
      le 2 0 ++ le 4 0 ++ [m.flagBits true] ++ List.replicate 7 0 := by
  have hw : m.isWithheld .denied = true := by
    rw [Mark.isWithheld, h]
    rfl
  rw [Mark.bytes, hw]
  rfl

theorem Mark.flagBits_map_tag (arg : BitVec 16) (tag : BitVec 32) (withheld : Bool) :
    ({ m with arg := arg, tag := m.tag.map fun _ => tag } : Mark).flagBits withheld = m.flagBits withheld := by
  rw [Mark.flagBits, Mark.flagBits, Option.isSome_map]

theorem Mark.bytes_shown (h : m.restricted = false) : m.bytes .denied = m.bytes .granted := by
  have hw : ∀ access, m.isWithheld access = false := fun access => by
    rw [Mark.isWithheld, h, Bool.false_and]
  rw [Mark.bytes, Mark.bytes, hw, hw]

end

/-! ### READ_TRACKS (R58) -/

theorem State.countsWithheld_denied (s : State) (h : s.tracks.restrictedClip = true ∨
    (s.proc.state ≠ .closed ∧ s.proc.restricted = true ∧ s.proc.verify = false)) :
    s.countsWithheld .denied = true := by
  unfold State.countsWithheld State.restrictedInProgress
  obtain hclip | ⟨hopen, hrestricted, hverify⟩ := h
  · rw [hclip]
    rfl
  · rw [s.sessionOpen_iff.2 hopen, hrestricted, hverify, Bool.or_comm]
    rfl

/-- Hidden counts are sent as 0 whatever they are. -/
theorem State.trackData_hidden (s : State) (p : Port) (h : s.countsWithheld (s.settings.guarded.access.get p) = true) :
    s.trackData p = (List.finRange 32).flatMap (s.trackBytes true) ++ [flagByte true] ++
      lastBytes (s.settings.guarded.access.get p) s.tracks.last := by
  rw [State.trackData, h]

theorem lastBytes_withheld {x : LastBlock} (h : x.cls = .restricted) : lastBytes .denied (some x) =
    le 4 x.period ++ [classCode .restricted, byte x.entries.length, 0xFF, 1] ++
      entryBytes (x.entries.map TrackEntry.withheld) := by
  have hw : x.isWithheld .denied = true := decide_eq_true ⟨h, rfl⟩
  rw [lastBytes, hw, if_pos rfl, h]

/-- Settles O20: what is withheld does not stand in `Block.withheldCopy`, nor in the entry of a withheld Mark, nor in a
hidden READ_TRACKS. -/
theorem restrictedContentWithheld : Obligations.RestrictedContentWithheld := by
  unfold Obligations.RestrictedContentWithheld
  refine ⟨fun b c whole hb hc he => ?_, fun b whole hb => ?_, fun m arg tag hm => ?_, fun m hm => Mark.bytes_shown hm,
    fun s p clips hdenied hhidden => ?_, fun x y hx hy hperiod hentries => ?_⟩
  · have hcls : c.cls = .restricted := by rw [hc, hb]
    rw [Block.bytes_withheld whole hb, Block.bytes_withheld whole hcls, Block.withheldCopy_eq hc he]
  · rw [Block.bytes_shown .denied whole fun ⟨h, _⟩ => hb h, Block.bytes_shown .granted whole fun ⟨h, _⟩ => hb h]
  · rw [Mark.bytes_withheld hm, Mark.bytes_withheld (m := { m with arg := arg, tag := m.tag.map fun _ => tag }) hm,
      Mark.flagBits_map_tag]
  · have hcounts : s.countsWithheld (s.settings.guarded.access.get p) = true := by
      rw [hdenied]
      exact s.countsWithheld_denied hhidden
    exact (s.trackData_hidden p hcounts).trans
      (State.trackData_hidden { s with tracks := { s.tracks with clips := clips } } p hcounts).symm
  · have hlength : x.entries.length = y.entries.length := by simpa using congrArg List.length hentries
    rw [lastBytes_withheld hx, lastBytes_withheld hy, hperiod, hlength, map_withheld_eq hentries]

end Sys2Proof.Machine
end

section
/-! ADD_NOTE: its tests in order, and the time its NOTE Mark carries (R156). -/

namespace Sys2Proof.Machine

theorem exec_addNote (p : Port) (f : Frame) (s : State) : exec (.addNote p f) s =
    .next (s.writeFrame p f 13 fun t bs =>
      t.addNote p (param bs 0) (number bs 1 6) (number bs 7 2) (number bs 9 4)) := rfl

/-- A number field that the parameters begin with (R198). -/
theorem number_le_append (n v : Nat) (bs : List Byte) (h : v < 256 ^ n) : number (le n v ++ bs) 0 n = v :=
  (fieldAt_le n v bs).trans (Nat.mod_eq_of_lt h)

/-- The parameters after a first number field (R198). -/
theorem number_append (m v : Nat) (bs : List Byte) (i n : Nat) :
    number (le m v ++ bs) (m + i) n = number bs i n := by
  have h := fieldAt_append_right (le m v) bs (m + i) n (by rw [le_length]; exact Nat.le_add_right m i)
  rwa [le_length, Nat.add_sub_cancel_left] at h

/-- The three number fields of ADD_NOTE, after its option byte, read back where they were sent (R198). -/
theorem number_note (c : Byte) {time : Nat} (htime : time < 2 ^ 48) (arg : BitVec 16) (tag : BitVec 32) :
    let bs := c :: (le 6 time ++ le 2 arg.toNat ++ le 4 tag.toNat)
    number bs 1 6 = time ∧ number bs 7 2 = arg.toNat ∧ number bs 9 4 = tag.toNat := by
  rw [List.append_assoc]
  have hargs : ∀ i n, number (c :: (le 6 time ++ (le 2 arg.toNat ++ le 4 tag.toNat))) (6 + i + 1) n =
      number (le 2 arg.toNat ++ le 4 tag.toNat) i n := number_append 6 time _
  refine ⟨number_le_append 6 time _ htime, (hargs 0 2).trans (number_le_append 2 _ _ arg.isLt), ?_⟩
  exact (hargs 2 4).trans ((number_append 2 _ _ 0 4).trans (number_le 4 _ tag.isLt))

section
variable (s : State) (p : Port) (time arg tag : Nat)

theorem State.noteBound_eq : s.noteBound = ((s.ring.blocks.head?).map Block.time).getD 0 := by
  unfold State.noteBound
  cases s.ring.blocks <;> rfl

theorem State.addNote_range {option : Byte} (h : option.toNat > 1) :
    s.addNote p option time arg tag = (.range, s) := if_pos h

theorem State.addNote_closed {option : Byte} (ho : option.toNat ≤ 1) (h : s.proc.state = .closed) :
    s.addNote p option time arg tag = (.state, s) :=
  (if_neg ho.not_gt).trans (if_pos (by simpa using mt s.sessionOpen_iff.1 (not_not.2 h)))

/-- Option 0: the note carries the time now. -/
theorem State.addNote_now (h : s.proc.state ≠ .closed) : s.addNote p 0 time arg tag = (.ok, s.requestMark
    ⟨.note, partyOf p, s.proc.clock, BitVec.ofNat 16 arg, some (BitVec.ofNat 32 tag), false, false⟩) :=
  (if_neg (by decide)).trans (if_neg (by simp [s.sessionOpen_iff.2 h]))

/-- Option 1: the note carries the given time brought between the bound and now. -/
theorem State.addNote_given (h : s.proc.state ≠ .closed) {fixed : Nat} {moved : Bool}
    (hfixed : min (max time s.noteBound) s.proc.clock = fixed) (hmoved : decide (fixed ≠ time) = moved) :
    s.addNote p 1 time arg tag = (if moved then .clamped else .ok, s.requestMark
      ⟨.note, partyOf p, fixed, BitVec.ofNat 16 arg, some (BitVec.ofNat 32 tag), false, moved⟩) := by
  subst hfixed hmoved
  exact (if_neg (by decide)).trans (if_neg (by simp [s.sessionOpen_iff.2 h]))

end

/-- Settles O22: the tests by the branches of `State.addNote`, the time by where the given one lies. -/
theorem addNote : Obligations.AddNote := by
  unfold Obligations.AddNote
  intro p f c time arg tag s htakes htime hhears now bound note
  obtain ⟨htimeRead, hargRead, htagRead⟩ := number_note c htime arg tag
  have hanswer : ∀ {r t}, (s.shifted p f).addNote p c time arg.toNat tag.toNat = (r, t) →
      exec (.addNote p f) s = .next (t.setResult p r) := fun h => by
    refine (exec_addNote p f s).trans (congrArg _ (s.writeFrame_answers p f (act := fun t bs =>
      t.addNote p (param bs 0) (number bs 1 6) (number bs 7 2) (number bs 9 4)) htakes hhears ?_))
    rwa [htimeRead, hargRead, htagRead]
  have hnote : ∀ {t moved}, (s.shifted p f).addNote p c time arg.toNat tag.toNat =
      (if moved then .clamped else .ok, (s.shifted p f).requestMark
        ⟨.note, partyOf p, t, BitVec.ofNat 16 arg.toNat, some (BitVec.ofNat 32 tag.toNat), false, moved⟩) →
      exec (.addNote p f) s = .next (note t moved) := fun h => by
    rw [BitVec.ofNat_toNat, BitVec.ofNat_toNat, BitVec.setWidth_eq, BitVec.setWidth_eq] at h
    exact hanswer h
  have hgiven : c = 1 → s.proc.state ≠ .closed → ∀ {t moved}, min (max time bound) now = t →
      decide (t ≠ time) = moved → exec (.addNote p f) s = .next (note t moved) := fun hc hs t moved ht hm => by
    refine hnote ?_
    rw [hc]
    exact (s.shifted p f).addNote_given p time _ _ hs ((s.shifted p f).noteBound_eq ▸ ht) hm
  refine ⟨fun hc => hanswer (State.addNote_range _ p _ _ _ hc),
    fun hc hs => hanswer (State.addNote_closed _ p _ _ _ hc hs), fun hc hs => hnote ?_,
    fun hc hs hlow hhigh => hgiven hc hs ?_ ?_, fun hc hs hlow hbound => hgiven hc hs ?_ ?_,
    fun hc hs hbound hlate => hgiven hc hs ?_ ?_⟩
  · rw [hc]
    exact (s.shifted p f).addNote_now p time _ _ hs
  · omega
  · exact decide_eq_false (not_not.2 rfl)
  · omega
  · exact decide_eq_true (by omega)
  · omega
  · exact decide_eq_true (by omega)

end Sys2Proof.Machine
end

section
/-! A Mark's block reference and its RESTRICTED flag (R154, R155). -/

namespace Sys2Proof.Machine

section
variable {r : Ring} {time : Nat}

/-- The Block that is found for a time is stored and covers it (R104). -/
theorem Ring.covering_some {b : Block} (h : r.covering time = some b) :
    b ∈ r.blocks ∧ b.time ≤ time ∧ time ≤ b.spanEnd :=
  ⟨List.mem_of_find?_eq_some h, of_decide_eq_true (List.find?_some
    (p := fun b : Block => decide (b.time ≤ time ∧ time ≤ b.spanEnd)) h)⟩

theorem Ring.covering_eq_none_iff :
    r.covering time = none ↔ ∀ b ∈ r.blocks, ¬(b.time ≤ time ∧ time ≤ b.spanEnd) := by
  simp only [Ring.covering, List.find?_eq_none, decide_eq_true_eq]

end

section
variable (s : State) {time : Nat}

/-- A time lies in the Block Period of the Block in Progress (R154). -/
theorem State.inBlockPeriod_iff : s.inBlockPeriod time = true ↔ s.proc.state ≠ .closed ∧
    480 * s.proc.periods ≤ time ∧ time ≤ 480 * s.proc.periods + 479 := by
  rw [State.inBlockPeriod, Bool.and_eq_true, s.sessionOpen_iff, decide_eq_true_iff]

theorem State.restrictedInProgress_iff :
    s.restrictedInProgress = true ↔ s.proc.restricted = true ∧ s.proc.verify = false := by
  rw [State.restrictedInProgress, Bool.and_eq_true, Bool.not_eq_true']

theorem State.inRestrictedGap_iff : s.inRestrictedGap time = true ↔
    ∃ g, s.ring.gap = some g ∧ g.restricted = true ∧ g.firstTime ≤ time ∧ time ≤ g.spanEnd := by
  unfold State.inRestrictedGap
  cases s.ring.gap <;> simp

/-! ### The block reference (R154) -/

theorem State.blockReference_stored {b : Block} (h : s.ring.covering time = some b) :
    s.blockReference time = some b.sequence := by
  rw [State.blockReference, h]

/-- Outside the stored Blocks only the Block in Progress can be named, and only if it takes the next Sequence. -/
theorem State.blockReference_unstored (h : s.ring.covering time = none) : s.blockReference time =
    if s.inBlockPeriod time && s.proc.recording && s.ring.gap.isNone then some s.ring.next else none := by
  rw [State.blockReference, h]

/-! ### The RESTRICTED flag (R155) -/

theorem State.inRestrictedBlock_stored {b : Block} (h : s.ring.covering time = some b) :
    s.inRestrictedBlock time = decide (b.cls = .restricted) := by
  rw [State.inRestrictedBlock, h]

theorem State.inRestrictedBlock_false
    (h : ∀ b ∈ s.ring.blocks, b.time ≤ time ∧ time ≤ b.spanEnd → b.cls ≠ .restricted) :
    s.inRestrictedBlock time = false := by
  cases hb : s.ring.covering time with
  | none => rw [State.inRestrictedBlock, hb]
  | some b =>
    obtain ⟨hmem, hcovers⟩ := Ring.covering_some hb
    rw [s.inRestrictedBlock_stored hb]
    exact decide_eq_false (h b hmem hcovers)

/-- The five grounds of the RESTRICTED flag, each by itself enough (R155). -/
theorem State.markRestricted_iff (ask : Bool) : s.markRestricted ask time = true ↔
    s.stateForMarks = .sidebar ∨ ask = true ∨ s.inRestrictedBlock time = true ∨
      (s.inBlockPeriod time = true ∧ s.restrictedInProgress = true) ∨ s.inRestrictedGap time = true := by
  simp only [State.markRestricted, Bool.or_eq_true, Bool.and_eq_true, decide_eq_true_iff, or_assoc]

end

/-- Settles O55: the reference by whether a stored Block covers the time, the flag by its five grounds. -/
theorem markReferences : Obligations.MarkReferences := by
  unfold Obligations.MarkReferences
  intro s r m now covers current inGap
  have hnow : s.stateForMarks = now := rfl
  have hperiod : s.inBlockPeriod r.time = true ↔ current := s.inBlockPeriod_iff
  have hgap : s.inRestrictedGap r.time = true ↔ inGap := s.inRestrictedGap_iff
  have hflag := s.markRestricted_iff (time := r.time) r.askRestricted
  rw [hnow, hperiod, hgap, s.restrictedInProgress_iff] at hflag
  have hunstored : (∀ b ∈ s.ring.blocks, ¬covers b) → m.block = _ := fun h =>
    s.blockReference_unstored (Ring.covering_eq_none_iff.2 h)
  refine ⟨fun ⟨b, hb, hcovers⟩ => ?_, fun h hc hr hg => ?_, fun h hn => ?_, fun h => hflag.2 (.inl h),
    fun h => hflag.2 (.inr (.inl h)), fun hc hr hv => hflag.2 (.inr (.inr (.inr (.inl ⟨hc, hr, hv⟩)))),
    fun h => hflag.2 (.inr (.inr (.inr (.inr h)))), fun hs ha hb hp hg => ?_⟩
  · cases hfound : s.ring.covering r.time with
    | none => exact absurd hcovers (Ring.covering_eq_none_iff.1 hfound b hb)
    | some d =>
      obtain ⟨hmem, hcovers'⟩ := Ring.covering_some hfound
      refine ⟨d, hmem, hcovers', s.blockReference_stored hfound, fun hcls => hflag.2 (.inr (.inr (.inl ?_)))⟩
      rw [s.inRestrictedBlock_stored hfound]
      exact decide_eq_true hcls
  · rw [hunstored h, hperiod.2 hc, hr, hg]
    rfl
  · rw [hunstored h, if_neg]
    rw [Bool.and_eq_true, Bool.and_eq_true, hperiod, Option.isNone_iff_eq_none]
    rintro ⟨⟨hc, hr⟩, hg⟩
    obtain hn | hn | hn := hn
    · exact hn hc
    · rw [hr] at hn
      cases hn
    · exact hn hg
  · refine Bool.eq_false_iff.2 fun hm => ?_
    obtain h | h | h | h | h := hflag.1 hm
    · exact hs h
    · rw [ha] at h
      cases h
    · rw [s.inRestrictedBlock_false hb] at h
      cases h
    · exact hp h
    · exact hg h

end Sys2Proof.Machine
end

section
/-! The Mark List: the entries to be had, what an insertion request does by them and by the lost count, and what the
freeing of a Mark reaches (R153, R157 to R161, R163). -/

namespace Sys2Proof.Machine

section
variable (s : State)

/-! ### The entries to be had (R157) -/

theorem State.obtainableEntries_room (h : s.marks.marks.length ≤ 1022) : s.obtainableEntries = 2 := if_pos h

/-- What keeps a Mark keeps every later one (R157). -/
theorem State.markKept_mono {m n : Nat} (hmn : m ≤ n) (h : s.markKept m) : s.markKept n := by
  obtain ⟨p, hstate, hret, hmark⟩ := h
  exact ⟨p, hstate, hret, hmark.trans hmn⟩

/-! ### The ways of an insertion request (R153, R159 to R161) -/

section
variable (q : MarkRequest)

theorem State.insertMark_stored (hl : s.marks.lost = 0) (he : 1 ≤ s.obtainableEntries) :
    s.insertMark q = s.storeMark q := (if_pos hl).trans (if_pos he)

theorem State.insertMark_both (hl : 0 < s.marks.lost) (he : s.obtainableEntries = 2) :
    s.insertMark q = s.storeLost.storeMark q := (if_neg hl.ne').trans (if_pos he)

theorem State.insertMark_instead (hl : 0 < s.marks.lost) (he : s.obtainableEntries = 1) :
    s.insertMark q = (s.countLost q.time).storeLost :=
  (if_neg hl.ne').trans ((if_neg (by omega)).trans (if_pos he))

/-- Without an entry to be had the Mark is lost, whatever was lost before. -/
theorem State.insertMark_lost (he : s.obtainableEntries = 0) : s.insertMark q = s.countLost q.time := by
  unfold State.insertMark
  rw [he]
  exact ite_self _

end

/-! ### The Mark List and the Event Flags after a storing or a loss -/

theorem State.raiseBoth_flags (e : Event) (p : Port) :
    ((s.raiseBoth e).events.get p).flags = (s.events.get p).flags ||| eventMask e := by
  cases p <;> rfl

theorem State.storeMark_getLast? (q : MarkRequest) :
    (s.storeMark q).marks.marks.getLast? = some (s.makeMark q) := by
  rw [s.storeMark_marks]
  exact List.getLast?_concat

/-- A storing leaves the Mark that was the newest just before its own. -/
theorem State.storeMark_getLast?_dropLast (q : MarkRequest) :
    (s.storeMark q).marks.marks.dropLast.getLast? = s.marks.marks.getLast? := by
  rw [s.storeMark_marks]
  dsimp only
  rw [List.dropLast_concat]
  split
  · rw [List.getLast?_tail, if_neg (by omega)]
  · rfl

theorem State.storeLost_getLast? : s.storeLost.marks.marks.getLast? = some (s.makeMark s.lostRequest) := by
  rw [s.storeLost_marks]
  exact List.getLast?_concat

theorem State.storeLost_flagged (p : Port) : s.storeLost.flagged p .mark := State.raiseBoth_flagged _ .mark p

theorem State.lostRequest_time {time : Nat} (h : s.marks.firstLost = some time) : s.lostRequest.time = time := by
  rw [State.lostRequest, h]
  rfl

/-- A further loss leaves the first lost time (R160). -/
theorem State.countLost_marks (hl : 0 < s.marks.lost) (time : Nat) : (s.countLost time).marks =
    { s.marks with lost := countTo 4294967295 s.marks.lost } := by
  obtain ⟨e, h⟩ := s.countLost_keeps time
  rw [h, if_neg hl.ne']

/-! ### The freeing of the oldest Mark (R158) -/

theorem State.raiseMarkCut_readers (serial : Nat) (p : Port) : (s.raiseMarkCut serial p).readers = s.readers := by
  unfold State.raiseMarkCut
  split <;> rfl

theorem State.raiseMarkCut_events_other (serial : Nat) (p : Port) :
    (s.raiseMarkCut serial p).events.get (otherPort p) = s.events.get (otherPort p) := by
  unfold State.raiseMarkCut
  split
  · exact Both.get_set_other _ _ _
  · rfl

theorem State.raiseMarkCut_events (serial : Nat) (p : Port) : (s.raiseMarkCut serial p).events.get p =
    if (s.readers.get p).yields = true ∧ (s.readers.get p).mark ≤ serial then
      { s.events.get p with flags := (s.events.get p).flags ||| eventMask .markCut }
    else s.events.get p := by
  unfold State.raiseMarkCut
  split
  · exact Both.get_update _ _ _
  · rfl

/-- A freeing reaches the Mark List, the Readers and the Event Flags (R158). -/
theorem State.freeMark_frame : s.freeMark = { s with
    marks := { s.marks with marks := s.marks.marks.tail }
    readers := s.freeMark.readers
    events := s.freeMark.events } := by
  obtain ⟨r, e, h⟩ := s.freeMark_keeps
  rw [h]

theorem State.freeMark_events (p : Port) : s.freeMark.events.get p =
    if (s.readers.get p).yields = true ∧ (s.readers.get p).mark ≤ s.marks.oldest then
      { s.events.get p with flags := (s.events.get p).flags ||| eventMask .markCut }
    else s.events.get p := by
  have hevents : s.freeMark.events.get p =
      ((s.raiseMarkCut s.marks.oldest .a).raiseMarkCut s.marks.oldest .b).events.get p := rfl
  rw [hevents]
  cases p with
  | a => exact (State.raiseMarkCut_events_other _ _ .b).trans (s.raiseMarkCut_events _ .a)
  | b =>
    have hother : (s.raiseMarkCut s.marks.oldest .a).events.get .b = s.events.get .b :=
      s.raiseMarkCut_events_other _ .a
    rw [State.raiseMarkCut_events, s.raiseMarkCut_readers, hother]

end

section
variable {t : Transfer} {serial : Nat}

/-- A transfer that names the freed Mark is overtaken (R144). -/
theorem Transfer.freedMark_names {first count : Nat} (hd : t.delivery = .marks first count)
    (hlive : t.overtaken = none) (hf : first ≤ serial) (hs : serial < first + count) :
    t.freedMark serial = { t with overtaken := some t.edges } := by
  rw [Transfer.freedMark, hd]
  exact if_pos ⟨hf, hs, hlive⟩

/-- Any other transfer, and one overtaken before, is left as it is (R144). -/
theorem Transfer.freedMark_other (h : t.overtaken ≠ none ∨
    ¬∃ first count, t.delivery = .marks first count ∧ first ≤ serial ∧ serial < first + count) :
    t.freedMark serial = t := by
  unfold Transfer.freedMark
  split
  next first count hd =>
    refine if_neg fun ⟨hf, hs, hlive⟩ => ?_
    exact h.elim (fun hn => hn hlive) fun hn => hn ⟨first, count, hd, hf, hs⟩
  next => rfl
  next => rfl

end

/-- Settles O54: the entries by `State.obtainableEntries`, a request by the ways of `State.insertMark`, a freeing by
`State.freeMark_eq` and whether it reaches the Reader. -/
theorem insertionTable : Obligations.InsertionTable := by
  unfold Obligations.InsertionTable
  intro s r hlen t entries made lostMark more count oldest
  have hbound : ∀ {n}, s.marksBound n = true ↔ s.markKept n := s.marksBound_iff _
  refine ⟨s.obtainableEntries_room, fun hc => ?_, fun hc => ?_, fun hl he => ?_, fun hl he => ?_, fun hl he => ?_,
    fun hl he => ?_, fun hl he => ?_, fun hl he => ?_, s.freeMark_frame, fun p => ?_⟩
  · have hentries : entries = _ := s.obtainableEntries_last hc
    rw [hentries]
    exact ⟨fun hk => if_pos (hbound.2 hk), fun hk => if_neg (mt hbound.1 hk)⟩
  · have hentries : entries = _ := s.obtainableEntries_full hc
    rw [hentries]
    refine ⟨fun hk => if_pos (hbound.2 hk), fun hk hk' => ?_, fun hk => ?_⟩
    · exact (if_neg (mt hbound.1 hk)).trans (if_pos (hbound.2 hk'))
    · have hk' : ¬s.markKept oldest := mt (s.markKept_mono (Nat.le_succ _)) hk
      exact (if_neg (mt hbound.1 hk')).trans (if_neg (mt hbound.1 hk))
  · have ht : t = s.storeMark r := s.insertMark_stored r hl he
    rw [ht]
    refine ⟨?_, ?_, _, s.storeMark_getLast? r, rfl, rfl, rfl, rfl, rfl, rfl, rfl⟩
    · rw [s.storeMark_marks]
    · rw [s.storeMark_marks]
      exact hl
  · have ht : t = s.countLost r.time := s.insertMark_lost r he
    rw [ht]
    refine ⟨?_, State.raiseBoth_flags _ .marksLost⟩
    obtain ⟨e, heq⟩ := s.countLost_keeps r.time
    rw [heq, hl]
    rfl
  · have ht : t = s.storeLost.storeMark r := s.insertMark_both r hl he
    have hnext : s.storeLost.marks.next = s.marks.next + 1 := by rw [s.storeLost_marks]
    rw [ht]
    refine ⟨?_, ?_, ?_, State.raiseBoth_flagged _ .mark, ⟨_, s.storeLost.storeMark_getLast? r, hnext, rfl, rfl, rfl,
      rfl, rfl, rfl⟩, _, (s.storeLost.storeMark_getLast?_dropLast r).trans s.storeLost_getLast?, rfl, rfl, rfl, rfl,
      rfl, rfl, fun time => s.lostRequest_time, _, rfl⟩
    all_goals rw [s.storeLost.storeMark_marks, s.storeLost_marks]
  · have ht : t = (s.countLost r.time).storeLost := s.insertMark_instead r hl he
    have hmarks := s.countLost_marks hl r.time
    have hlost : ∀ p, (s.countLost r.time).flagged p .marksLost := State.raiseBoth_flagged _ .marksLost
    rw [ht]
    refine ⟨?_, ?_, ?_, fun p => ⟨State.FlagsKept.storeLost _ p _ (hlost p), State.storeLost_flagged _ p⟩,
      _, State.storeLost_getLast? _, rfl, rfl, rfl, rfl, rfl, rfl, fun time h => ?_, _, rfl⟩
    · rw [State.storeLost_marks, hmarks]
    · rw [State.storeLost_marks]
    · rw [State.storeLost_marks]
    · exact State.lostRequest_time _ (by rw [hmarks, h])
  · have ht : t = s.countLost r.time := s.insertMark_lost r he
    rw [ht]
    exact ⟨s.countLost_marks hl r.time, State.raiseBoth_flags _ .marksLost⟩
  · intro u
    have ht : t = State.raiseBoth { u with marks := u.marks.append (s.makeMark r) } .mark :=
      s.insertMark_stored r hl he
    have hnext : u.marks.next = s.marks.next := by
      change (if 1024 ≤ s.marks.marks.length then s.freeMark else s).marks.next = s.marks.next
      split
      · rw [s.freeMark_eq]
      · rfl
    rw [ht]
    refine ⟨?_, rfl, State.raiseBoth_flags _ .mark⟩
    change u.marks.marks ++ [{ s.makeMark r with serial := u.marks.next }] = _
    rw [hnext]
    rfl
  · intro x y reached
    have hreached : x.yields = true ∧ x.mark ≤ s.marks.oldest ↔ reached := by
      rw [Reader.yields_iff, and_assoc]
      rfl
    have hreader : y = x.afterMarkFreeing s.marks.oldest := s.freeMark_reader p
    have hmoved : reached → y = _ := fun hr => hreader.trans (x.afterMarkFreeing_reached _ (hreached.2 hr))
    have hflight : reached → y.flight = x.flight.map (Transfer.freedMark · s.marks.oldest) := fun hr =>
      congrArg Reader.flight (hmoved hr)
    refine ⟨fun hr => ⟨hreader.trans (x.afterMarkFreeing_other _ (mt hreached.1 hr)),
        (s.freeMark_events p).trans (if_neg (mt hreached.1 hr))⟩,
      fun hr => (s.freeMark_events p).trans (if_pos (hreached.2 hr)), fun hr => ?_, fun hr hx => ?_,
      fun g hr hx => ⟨fun first count hd hlive hfirst hlast => ?_, fun hother => ?_⟩⟩
    · rw [hflight hr]
      exact hmoved hr
    · rw [hflight hr, hx]
      rfl
    · rw [hflight hr, hx]
      exact congrArg some (Transfer.freedMark_names hd hlive hfirst hlast)
    · rw [hflight hr, hx]
      exact congrArg some (Transfer.freedMark_other hother)

end Sys2Proof.Machine
end

section
/-! A Frame read back from its rising edges: its row by the command byte, and the bytes that a host sends (R167, R168,
R171, R198). -/

namespace Sys2Proof.Machine

/-! ### The command byte (R167) -/

/-- Taking bits into a byte from the right moves what stands in it to the left, bit by bit. -/
theorem getLsbD_shiftIn (b : Byte) (bit : Bool) (i : Nat) :
    (b <<< 1 ||| if bit then 1 else 0).getLsbD i =
      (decide (i < 8) && if i = 0 then bit else b.getLsbD (i - 1)) := by
  cases bit <;> rcases i with _ | i <;> simp [BitVec.getLsbD_one]

theorem laneZeroByte_byteEdges (c : Byte) (edges : List Nibble) : laneZeroByte (byteEdges .one c ++ edges) = c := by
  have hedge : ∀ bit : Bool, (if bit then (1 : Nibble) else 0).getLsbD 0 = bit := by decide
  apply BitVec.eq_of_getLsbD_eq
  intro i hi
  simp only [laneZeroByte, byteEdges, List.map_cons, List.map_nil, List.cons_append, List.nil_append,
    List.take_succ_cons, List.take_zero, List.foldl_cons, List.foldl_nil, hedge, getLsbD_shiftIn]
  interval_cases i <;> rfl

/-! ### The row of a Frame (R171, Tables 9.1 and 9.2) -/

/-- Table 9.2 read both ways. -/
theorem codeOf_commandOf {p : Port} {f : Frame} {c : Byte} {i : Instr} (h : commandOf p f c = some i) :
    codeOf i = some c := by
  unfold commandOf at h
  split at h <;> cases h <;> exact congrArg some (BitVec.eq_of_toNat_eq (Eq.symm ‹_›))

theorem commandOf_codeOf {i : Instr} {c : Byte} (h : codeOf i = some c) : ∃ p f, commandOf p f c = some i := by
  cases i <;> cases h <;> exact ⟨_, _, rfl⟩

/-- A Frame with a complete command byte is the row of its command, or UNKNOWN_COMMAND (R171). -/
theorem frameRow_complete (p : Port) (f : Frame) (c : Byte) (ht : f.tail = 0) :
    frameRow p false f.reset (byteEdges .one c ++ f.lanes) f.atFall =
      (commandOf p f c).getD (.unknownCommand p c f) := by
  have hf : (⟨f.lanes, 0, f.atFall, f.reset⟩ : Frame) = f := by rw [← ht]
  have hcode : (byteEdges .one c).length = 8 := rfl
  have hdrop : (byteEdges .one c ++ f.lanes).drop 8 = f.lanes := List.drop_left' hcode
  have hlong : ¬(byteEdges .one c ++ f.lanes).length < 8 := by simp [hcode]
  have hsome : ¬(byteEdges .one c ++ f.lanes).length = 0 := by omega
  simp only [frameRow, if_neg hsome, if_neg hlong, laneZeroByte_byteEdges, hdrop, hf, Bool.false_eq_true, if_false]
  cases commandOf p f c <;> rfl

theorem frameRow_empty (p : Port) (load : Bool) (reset : AtReset) (fall : Option PortTiming) :
    frameRow p load reset [] fall = .zeroByteFrame p := rfl

theorem frameRow_load (p : Port) (reset : AtReset) {edges : List Nibble} (fall : Option PortTiming)
    (h : edges ≠ []) : frameRow p true reset edges fall = .frameDuringLoad p ⟨edges.length, reset⟩ := by
  rw [frameRow, if_neg (mt List.length_eq_zero_iff.1 h), if_pos rfl]

theorem frameRow_short (p : Port) (reset : AtReset) {edges : List Nibble} (fall : Option PortTiming)
    (h : edges ≠ []) (hs : edges.length < 8) :
    frameRow p false reset edges fall = .shortFrame p ⟨edges.length, reset⟩ := by
  rw [frameRow, if_neg (mt List.length_eq_zero_iff.1 h), if_neg Bool.false_ne_true, if_pos hs]

/-! ### The bytes that a host sends (R168) -/

theorem byteEdges_length (w : LaneWidth) (b : Byte) : (byteEdges w b).length = w.edgesPerByte := by
  cases w <;> rfl

theorem getD_flatMap_pieces {α β : Type} (f : α → List β) {n : Nat} (hf : ∀ a, (f a).length = n) (xs : List α)
    {i k : Nat} (hi : i < xs.length) (hk : k < n) (d : β) :
    (xs.flatMap f).getD (n * i + k) d = (f xs[i]).getD k d := by
  induction xs generalizing i with
  | nil => exact absurd hi (Nat.not_lt_zero i)
  | cons x xs ih =>
    rw [List.flatMap_cons]
    cases i with
    | zero => rw [Nat.mul_zero, Nat.zero_add, List.getD_append _ _ _ _ (by rw [hf]; exact hk), List.getElem_cons_zero]
    | succ i =>
      have hpos : n * (i + 1) + k - (f x).length = n * i + k := by rw [hf, Nat.mul_succ]; omega
      rw [List.getD_append_right _ _ _ _ (by rw [hf, Nat.mul_succ]; omega), hpos, List.getElem_cons_succ,
        ih (Nat.lt_of_succ_lt_succ hi)]

theorem Frame.ofBytes_edges (w : LaneWidth) (bs : List Byte) (tail : Nat) :
    (Frame.ofBytes w bs tail).edges = bs.length * w.edgesPerByte + tail := by
  simp [Frame.ofBytes, Frame.edges, byteEdges_length]

theorem Frame.ofBytes_edge (w : LaneWidth) (bs : List Byte) (tail : Nat) {i k : Nat} (hi : i < bs.length)
    (hk : k < w.edgesPerByte) :
    (Frame.ofBytes w bs tail).edge (w.edgesPerByte * i + k) = (byteEdges w bs[i]).getD k 0 :=
  getD_flatMap_pieces _ (byteEdges_length w) bs hi hk 0

/-- A byte of its bits, most significant first. -/
theorem byte_of_bits (b : Byte) :
    BitVec.ofBool (b.getLsbD 7) ++ BitVec.ofBool (b.getLsbD 6) ++ BitVec.ofBool (b.getLsbD 5) ++
      BitVec.ofBool (b.getLsbD 4) ++ BitVec.ofBool (b.getLsbD 3) ++ BitVec.ofBool (b.getLsbD 2) ++
      BitVec.ofBool (b.getLsbD 1) ++ BitVec.ofBool (b.getLsbD 0) = b := by
  apply BitVec.eq_of_getLsbD_eq
  intro i hi
  interval_cases i <;> simp only [BitVec.getLsbD_append] <;> simp

/-- A byte of its two halves. -/
theorem byte_of_halves (b : Byte) : b.extractLsb' 4 4 ++ b.extractLsb' 0 4 = b := by
  apply BitVec.eq_of_getLsbD_eq
  intro i hi
  interval_cases i <;> simp only [BitVec.getLsbD_append] <;> simp

theorem Frame.ofBytes_byteAt (w : LaneWidth) (bs : List Byte) (tail : Nat) {i : Nat} (hi : i < bs.length) :
    (Frame.ofBytes w bs tail).byteAt w i = bs[i] := by
  have hedge := fun {k : Nat} => Frame.ofBytes_edge w bs tail (k := k) hi
  have hbit : ∀ bit : Bool, (if bit then (1 : Nibble) else 0).getLsbD 0 = bit := by decide
  cases w with
  | one =>
    have hlane : ∀ k < 8, ((Frame.ofBytes .one bs tail).edge (8 * i + k)).getLsbD 0 = bs[i].getLsbD (7 - k) := by
      intro k hk
      rw [show 8 * i + k = LaneWidth.one.edgesPerByte * i + k from rfl, hedge hk]
      interval_cases k <;> exact hbit _
    have hfirst := hlane 0 (by decide)
    rw [Nat.add_zero] at hfirst
    simp only [Frame.byteAt, hfirst, hlane, Nat.reduceLT, Nat.reduceSub]
    exact byte_of_bits _
  | four =>
    have hhigh : (Frame.ofBytes .four bs tail).edge (2 * i) = bs[i].extractLsb' 4 4 := hedge (k := 0) (by decide)
    have hlow : (Frame.ofBytes .four bs tail).edge (2 * i + 1) = bs[i].extractLsb' 0 4 := hedge (by decide)
    simp only [Frame.byteAt, hhigh, hlow]
    exact byte_of_halves _

theorem Frame.ofBytes_bytes (w : LaneWidth) (bs : List Byte) (tail : Nat) :
    (Frame.ofBytes w bs tail).bytes w bs.length = bs := by
  apply List.ext_getElem
  · simp [Frame.bytes]
  · intro i _ hi
    simp [Frame.bytes, Frame.ofBytes_byteAt w bs tail hi]

/-- Settles O3: the row by the command byte that `laneZeroByte` reads back, the bytes by `Frame.ofBytes_byteAt`. -/
theorem framesReadFromTheWire : Obligations.FramesReadFromTheWire := by
  unfold Obligations.FramesReadFromTheWire
  refine ⟨fun p f c i ht h => ⟨?_, codeOf_commandOf h⟩, fun i c h => commandOf_codeOf h, fun p f c ht h => ?_,
    frameRow_empty, fun p reset edges fall h => frameRow_load p reset fall h,
    fun p reset edges fall h hs => frameRow_short p reset fall h hs,
    fun w bs tail => ⟨Frame.ofBytes_bytes w bs tail, Frame.ofBytes_edges w bs tail⟩, fun n v hv => ⟨le_length n v, ?_⟩⟩
  · rw [frameRow_complete p f c ht, h, Option.getD_some]
  · rw [frameRow_complete p f c ht, h, Option.getD_none]
  · rw [leNat_le, Nat.mod_eq_of_lt hv]

end Sys2Proof.Machine
end

section
/-! Frames that hold no command, Frames that fall in the load, and Frames that RESET meets (R167, R169, R171, R175). -/

namespace Sys2Proof.Machine

/-! ### The rows of Frames without a command -/

theorem exec_zeroByteFrame (p : Port) (s : State) : exec (.zeroByteFrame p) s = .next s := rfl

theorem exec_shortFrame (p : Port) (reset : AtReset) (s : State) {n : Nat} (h : 1 ≤ n) (h' : n ≤ 7) :
    exec (.shortFrame p ⟨n, reset⟩) s =
      .next (s.takeFrame p .one n reset fun t => t.answer p .one n .badFrame) :=
  congrArg Host.Outcome.next (if_pos ⟨h, h'⟩)

theorem exec_frameDuringLoad (p : Port) (reset : AtReset) (s : State) {n : Nat} (h : 1 ≤ n) :
    exec (.frameDuringLoad p ⟨n, reset⟩) s =
      .next (s.takeFrame p .one n reset fun t => t.answer p .one n .busy) := by
  have hlanes : lanesInLoad p = .one := by cases p <;> rfl
  rw [← hlanes]
  exact congrArg Host.Outcome.next (if_neg (Nat.ne_of_gt h))

theorem exec_unknownCommand (p : Port) (f : Frame) (s : State) {c : Byte} (h : commandOf p f c = none) :
    exec (.unknownCommand p c f) s =
      .next (s.takeCommand p f fun t => (t.reply p f zeros).setResult p .unknown) :=
  congrArg Host.Outcome.next (if_pos (by rw [h]; rfl))

/-! ### What such Frames shift out (R167, R169) -/

section
variable (s : State) (p : Port) (w : LaneWidth) {n : Nat}

theorem State.send_short (reply : Nat → List (Option Byte)) (h : n < 8) :
    s.send p w n reply = s.setOut p [] (leadingBits n ((reply 1).getD 0 none)) := by
  rw [State.send, wireOut, if_pos h]

theorem State.send_zeros (h : 8 ≤ n) : s.send p w n zeros = s.setOut p (zeros ((n - 8) / w.edgesPerByte + 1))
    (List.replicate ((n - 8) % w.edgesPerByte * w.bitsPerEdge) (some false)) := by
  rw [State.send, wireOut, if_neg (Nat.not_lt.2 h)]
  simp [zeros, wholeBytes, partLength, ← leadingBits_zero]

theorem State.send_zeros_short (h : n < 8) : s.send p w n zeros = s.setOut p [] (List.replicate n (some false)) := by
  rw [s.send_short p w _ h, ← leadingBits_zero]
  rfl

theorem State.send_result (h : 8 ≤ n) : s.send p w n (s.withResult p zeros) =
    s.setOut p (s.resultOut p ++ zeros ((n - 8) / w.edgesPerByte))
      (List.replicate ((n - 8) % w.edgesPerByte * w.bitsPerEdge) (some false)) := by
  rw [State.send, wireOut, if_neg (Nat.not_lt.2 h)]
  simp [State.withResult, State.resultOut, zeros, wholeBytes, partLength, ← leadingBits_zero]

/-- The bits of the Result byte that go out in a Frame of `n` edges (R167, R169). -/
def State.resultBits (n : Nat) : List (Option Bool) :=
  (List.range n).map fun i => some ((resultCode (s.ports.get p).result).getLsbD (7 - i))

theorem State.answer_short (r : Result) (h : n < 8) :
    s.answer p w n r = (s.setOut p [] (s.resultBits p n)).setResult p r := by
  rw [State.answer, s.send_short p w _ h]
  rfl

theorem State.answer_whole (r : Result) (h : 8 ≤ n) : s.answer p w n r =
    (s.setOut p (s.resultOut p ++ zeros ((n - 8) / w.edgesPerByte))
      (List.replicate ((n - 8) % w.edgesPerByte * w.bitsPerEdge) (some false))).setResult p r := by
  rw [State.answer, s.send_result p w h]

end

/-- Settles O4: each row is `State.takeFrame` with the answer that its Frame gets. -/
theorem framesWithoutCommand : Obligations.FramesWithoutCommand := by
  unfold Obligations.FramesWithoutCommand
  refine ⟨exec_zeroByteFrame, fun p n s hr h h' => ?_, fun p c f s hf hc => ?_, fun p n s hs => ?_⟩
  · rw [exec_shortFrame p _ s h h', s.takeFrame_ready p _ _ _ hr, s.answer_short p _ _ (by omega)]
    rfl
  · rw [exec_unknownCommand p f s hc, State.takeCommand, hf.2, s.takeFrame_ready p _ _ _ hf.1, s.reply_zeros]
  · have htaken : 1 ≤ n → exec (.frameDuringLoad p ⟨n, .steady⟩) s = .next (s.answer p .one n .busy) := by
      intro h
      rw [exec_frameDuringLoad p _ s h]
      obtain hr | ⟨hload, hline⟩ := hs
      · rw [s.takeFrame_ready p _ _ _ hr]
      · rw [s.takeFrame_loading p _ _ _ hload hline]
    refine ⟨fun h h' => ?_, fun h => ?_⟩
    · rw [htaken h, s.answer_short p _ _ h']
      rfl
    · rw [htaken (by omega), s.answer_whole p _ _ h]
      simp only [LaneWidth.edgesPerByte, LaneWidth.bitsPerEdge, Nat.mul_one]

/-! ### RESET in a Frame, byte by byte (R169, R175) -/

/-- A byte with nothing in it stays so under the cut. -/
theorem cutByte_zero (bits i : Nat) : cutByte bits i (some 0) = some 0 := by
  have hjoin : joinBits (bits - 8 * i) 0 0 = 0 := by simp [joinBits]
  unfold cutByte
  split
  · rfl
  · split
    · rfl
    · rw [Option.map_some, hjoin]

theorem cutByte_undriven {bits i : Nat} (h : 8 * i < bits) : cutByte bits i none = none := by
  rw [cutByte, if_neg (Nat.not_le.2 h)]
  simp

theorem cutByte_out {bits i : Nat} (b : Option Byte) (h : 8 * (i + 1) ≤ bits) : cutByte bits i b = b := if_pos h

theorem cutByte_after {bits i : Nat} (b : Option Byte) (h : bits ≤ 8 * i) : cutByte bits i b = some 0 := by
  rw [cutByte, if_neg (by omega), if_pos h]

/-- Of a driven byte the bits that are out at the assertion are its own and the rest 0. -/
theorem cutByte_driven (bits i : Nat) (b : Byte) : ∃ v, cutByte bits i (some b) = some v ∧
    ∀ m < 8, v.getLsbD (7 - m) = (decide (8 * i + m < bits) && b.getLsbD (7 - m)) := by
  by_cases hout : 8 * (i + 1) ≤ bits
  · refine ⟨b, cutByte_out _ hout, fun m hm => ?_⟩
    rw [decide_eq_true (by omega), Bool.true_and]
  · by_cases hafter : bits ≤ 8 * i
    · refine ⟨0, cutByte_after _ hafter, fun m _ => ?_⟩
      rw [decide_eq_false (by omega), Bool.false_and]
      exact BitVec.getLsbD_zero
    · refine ⟨joinBits (bits - 8 * i) b 0, by rw [cutByte, if_neg hout, if_neg hafter]; rfl, fun m hm => ?_⟩
      rw [joinBits_zero_bit _ m b hm]
      congr 2
      rw [eq_iff_iff]
      omega

theorem mapIdx_replicate_fixed {α : Type} {f : Nat → α → α} {a : α} (h : ∀ i, f i a = a) (n : Nat) :
    (List.replicate n a).mapIdx f = List.replicate n a := by
  apply List.ext_getElem <;> simp [h]

/-- What a port shifts out of a Frame that RESET cuts, by what it would have shifted out. -/
theorem State.shiftCut_answer (s t : State) (p : Port) (bits : Nat) (b : List (Option Byte)) (c : List (Option Bool))
    (r : Result) : s.shiftCut p bits (((t.setOut p b c).setResult p r).ports.get p) =
      s.setOut p (b.mapIdx (cutByte bits)) (c.mapIdx fun i => cutBit bits (8 * b.length + i)) := by
  cases p <;> rfl

/-! ### The Frames that RESET meets (R175; log entry 22) -/

/-- A Frame meets no boundary and no transfer of its port: it is taken by a ready port, or answered in the load. -/
def State.meetsFrame (s : State) (p : Port) : Prop :=
  s.ready p ∨ (s.power = .loading ∧ s.resetLine = false)

section
variable {s : State} {p : Port}

theorem State.meetsFrame.powered (h : s.meetsFrame p) : s.power ≠ .off ∧ s.resetLine = false := by
  obtain ⟨hpower, hline, -, -⟩ | ⟨hpower, hline⟩ := h <;> simp [hpower, hline]

theorem State.meetsFrame.atFrame (h : s.meetsFrame p) : s.atFrame p = s :=
  h.elim (s.atFrame_ready p) fun hload => s.atFrame_loading p hload.1

/-- RESET asserted in a Frame cuts what the Frame would have shifted out. -/
theorem State.meetsFrame.asserted (h : s.meetsFrame p) (w : LaneWidth) (edges k : Nat) (act : State → State) :
    s.takeFrame p w edges (.asserted k) act =
      s.shiftCut p (bitsOut w k) (((s.takeFrame p w edges .steady act).rise p 0).ports.get p) := by
  obtain ⟨hpower, hline⟩ := h.powered
  rw [s.takeFrame_asserted p w edges k act hpower hline, h.atFrame]

theorem State.meetsFrame_of_noFlight
    (h : s.ready p ∨ (s.power = .loading ∧ s.resetLine = false ∧ (s.readers.get p).flight = none)) :
    s.meetsFrame p ∧ (s.readers.get p).flight = none := by
  obtain hr | ⟨hload, hline, hflight⟩ := h
  · exact ⟨.inl hr, by obtain ⟨-, -, -, hflight⟩ := hr; exact hflight⟩
  · exact ⟨.inr ⟨hload, hline⟩, hflight⟩

theorem State.rise_noFlight (more : Nat) (h : (s.readers.get p).flight = none) : s.rise p more = s := by
  rw [State.rise, h]

theorem State.rise_answer (w : LaneWidth) (edges : Nat) (r : Result) (h : (s.readers.get p).flight = none) :
    (s.answer p w edges r).rise p 0 = s.answer p w edges r := State.rise_noFlight 0 h

/-- A Frame that gets an answer at once, cut by RESET. -/
theorem State.meetsFrame.answered (h : s.meetsFrame p) (hf : (s.readers.get p).flight = none) (w : LaneWidth)
    (edges k : Nat) (r : Result) : ∃ r', s.takeFrame p w edges (.asserted k) (fun t => t.answer p w edges r) =
      s.shiftCut p (bitsOut w k) ((s.answer p w edges r').ports.get p) := by
  rw [h.asserted w edges k]
  obtain hr | ⟨hload, hline⟩ := h
  · exact ⟨r, by rw [s.takeFrame_ready p _ _ _ hr, State.rise_answer _ _ _ hf]⟩
  · exact ⟨.busy, by rw [s.takeFrame_loading p _ _ _ hload hline, State.rise_answer _ _ _ hf]⟩

theorem bitsOut_one (k : Nat) : bitsOut .one k = k := by
  simp only [bitsOut, LaneWidth.bitsPerEdge]
  split <;> omega

theorem State.shiftCut_answer_short (k : Nat) (r : Result) {n : Nat} (h : n < 8) :
    s.shiftCut p (bitsOut .one k) ((s.answer p .one n r).ports.get p) = s.setOut p [] ((List.range n).map fun i =>
      some (decide (i < k) && (resultCode (s.ports.get p).result).getLsbD (7 - i))) := by
  have hbits : (s.resultBits p n).mapIdx (fun i => cutBit k (8 * 0 + i)) = (List.range n).map fun i =>
      some (decide (i < k) && (resultCode (s.ports.get p).result).getLsbD (7 - i)) := by
    apply List.ext_getElem
    · simp [State.resultBits]
    · intro i _ _
      by_cases hi : i < k <;> simp [State.resultBits, cutBit, hi]
  rw [s.answer_short p _ r h, bitsOut_one, State.shiftCut_answer, ← hbits]
  rfl

theorem State.shiftCut_answer_whole (k : Nat) (r : Result) {n : Nat} (h : 8 ≤ n) : ∃ v : Byte,
    s.shiftCut p (bitsOut .one k) ((s.answer p .one n r).ports.get p) =
      s.setOut p (some v :: zeros ((n - 8) / 8)) (List.replicate ((n - 8) % 8) (some false)) ∧
    ∀ m < 8, v.getLsbD (7 - m) = (decide (m < k) && (resultCode (s.ports.get p).result).getLsbD (7 - m)) := by
  obtain ⟨v, hv, hbits⟩ := cutByte_driven k 0 (resultCode (s.ports.get p).result)
  refine ⟨v, ?_, by simpa using hbits⟩
  have hrest : (zeros ((n - 8) / 8)).mapIdx (fun i => cutByte k (i + 1)) = zeros ((n - 8) / 8) :=
    mapIdx_replicate_fixed (fun i => cutByte_zero k (i + 1)) _
  have hpart : ∀ start, (List.replicate ((n - 8) % 8) (some false)).mapIdx (fun i => cutBit k (start + i)) =
      List.replicate ((n - 8) % 8) (some false) := fun start =>
    mapIdx_replicate_fixed (f := fun i => cutBit k (start + i)) (fun _ => ite_self _) _
  rw [s.answer_whole p _ r h, bitsOut_one, State.shiftCut_answer, State.resultOut, List.singleton_append,
    List.mapIdx_cons, hv]
  simp only [LaneWidth.edgesPerByte, LaneWidth.bitsPerEdge, Nat.mul_one, hrest, hpart]

end

/-! ### A command that RESET meets (R175) -/

/-- Whether a byte names a command does not depend on the rest of the Frame (Table 9.1 step 4). -/
theorem commandOf_none_congr {p : Port} {f : Frame} (g : Frame) {c : Byte} (h : commandOf p f c = none) :
    commandOf p g c = none := by
  cases hg : commandOf p g c with
  | none => rfl
  | some i => cases i <;> cases codeOf_commandOf hg <;> cases h

/-- The rows of one Frame, met by RESET or not, do the same with the state they meet. -/
theorem frameRows_alike {p : Port} {c : Byte} {f : Frame} {reset : AtReset} {i j : Instr}
    (h : commandOf p { f with reset := reset } c = some i ∧ commandOf p f c = some j ∨
      commandOf p { f with reset := reset } c = none ∧ i = .unknownCommand p c { f with reset := reset } ∧
        j = .unknownCommand p c f) :
    ∃ act, ∀ s : State,
      exec i s = .next (s.takeFrame p (s.timingOf p f).lanes (f.edges + 8) reset act) ∧
      exec j s = .next (s.takeFrame p (s.timingOf p f).lanes (f.edges + 8) f.reset act) := by
  obtain ⟨hi, hj⟩ | ⟨hnone, rfl, rfl⟩ := h
  · have hc := codeOf_commandOf hj
    cases j <;> cases hc <;> cases hi <;> cases hj <;> exact ⟨_, fun s => ⟨rfl, rfl⟩⟩
  · exact ⟨_, fun s => ⟨exec_unknownCommand p _ s hnone, exec_unknownCommand p f s (commandOf_none_congr f hnone)⟩⟩

/-- Settles O5: `State.takeFrame` by how RESET meets the Frame, and the cut byte by byte (`cutByte_driven`). -/
theorem framesInLoadAndReset : Obligations.FramesInLoadAndReset := by
  unfold Obligations.FramesInLoadAndReset
  refine ⟨fun i p f s hi => ?_, fun i p s hline hi => ?_, fun p n k s hs h h' => ?_, fun p n k s hs h => ?_,
    fun p n reset s hpower hline hreset => ?_, fun i j p c k f s t => ?_⟩
  · intro w bytes bits
    obtain ⟨act, hact⟩ := portCommand_takes hi
    refine ⟨fun hload hline hf => ?_, fun hpower hline hf => ?_, fun hline hf => ?_⟩
    · rw [hact, State.takeCommand, hf, s.takeFrame_loading p _ _ _ hload hline,
        s.answer_whole p _ _ (Nat.le_add_left 8 _)]
      rfl
    · have hmeets : ∀ k, f.reset ≠ .asserted k := fun k => by obtain hf | hf := hf <;> simp [hf]
      rw [hact, State.takeCommand, s.takeFrame_reset p _ _ _ _ hpower hline hmeets,
        s.send_zeros p _ (Nat.le_add_left 8 _)]
      rfl
    · obtain ⟨k, hk⟩ := hf
      rw [hact, State.takeCommand, hk]
      simp [State.takeFrame, hline]
  · obtain ⟨f, hi, hf⟩ | ⟨n, h, h', rfl⟩ | ⟨n, h, rfl⟩ | ⟨c, f, hc, hf, rfl⟩ := hi
    · obtain ⟨act, hact⟩ := portCommand_takes hi
      rw [hact, State.takeCommand, hf, s.takeFrame_released p _ _ _ hline]
    · rw [exec_shortFrame p _ s h h', s.takeFrame_released p _ _ _ hline]
    · rw [exec_frameDuringLoad p _ s h, s.takeFrame_released p _ _ _ hline]
    · rw [exec_unknownCommand p f s hc, State.takeCommand, hf, s.takeFrame_released p _ _ _ hline]
  · intro bits
    obtain ⟨hmeets, hflight⟩ := State.meetsFrame_of_noFlight hs
    obtain ⟨_, hshort⟩ := hmeets.answered hflight .one n k .badFrame
    obtain ⟨_, hload⟩ := hmeets.answered hflight .one n k .busy
    rw [exec_shortFrame p _ s h h', exec_frameDuringLoad p _ s h, hshort, hload,
      State.shiftCut_answer_short k _ (by omega), State.shiftCut_answer_short k _ (by omega)]
    exact ⟨rfl, rfl⟩
  · obtain ⟨hmeets, hflight⟩ := State.meetsFrame_of_noFlight hs
    obtain ⟨_, hload⟩ := hmeets.answered hflight .one n k .busy
    obtain ⟨v, hcut, hbits⟩ := State.shiftCut_answer_whole (s := s) (p := p) k _ h
    exact ⟨v, by rw [exec_frameDuringLoad p _ s (by omega), hload, hcut], hbits⟩
  · have hmeets : ∀ k, reset ≠ .asserted k := fun k => by obtain rfl | rfl := hreset <;> simp
    have hsend := fun w edges act => s.takeFrame_reset p w edges reset act hpower hline hmeets
    refine ⟨fun h h' => ?_, fun h h' => ?_, fun h => ?_, fun c f hc hf => ?_⟩
    · rw [exec_shortFrame p _ s h h', hsend, s.send_zeros_short p _ (by omega)]
    · rw [exec_frameDuringLoad p _ s h, hsend, s.send_zeros_short p _ (by omega)]
    · rw [exec_frameDuringLoad p _ s (by omega), hsend, s.send_zeros p _ h]
      simp only [LaneWidth.edgesPerByte, LaneWidth.bitsPerEdge, Nat.mul_one]
    · rw [exec_unknownCommand p f s hc, State.takeCommand, hf, hsend, s.send_zeros p _ (Nat.le_add_left 8 _)]
      rfl
  · intro g hf hrows hs hj x w bits
    obtain ⟨act, hact⟩ := frameRows_alike hrows
    obtain ⟨hi, hj'⟩ := hact s
    rw [hj', hf] at hj
    cases hj
    have hmeets : s.meetsFrame p := hs
    refine ⟨x.out.mapIdx (cutByte bits), x.part.mapIdx fun i => cutBit bits (8 * x.out.length + i),
      by rw [hi, hmeets.asserted]; rfl, List.length_mapIdx, List.length_mapIdx, fun n hn => ?_, fun n hlt hn => ?_,
      fun n h h' hx => ?_, fun n b h h' hx => ?_, fun m hm => ?_⟩
    · rw [List.getElem?_mapIdx]
      cases x.out[n]? with
      | none => rfl
      | some b => rw [Option.map_some, cutByte_out b hn]
    · rw [List.length_mapIdx] at hlt
      rw [List.getElem?_mapIdx, List.getElem?_eq_getElem hlt, Option.map_some, cutByte_after _ hn]
    · rw [List.getElem?_mapIdx, hx, Option.map_some, cutByte_undriven h]
    · obtain ⟨v, hv, hbits⟩ := cutByte_driven bits n b
      exact ⟨v, by rw [List.getElem?_mapIdx, hx, Option.map_some, hv], hbits⟩
    · rw [List.length_mapIdx] at hm
      rw [List.getElem?_mapIdx, List.length_mapIdx, List.getElem?_eq_getElem hm, Option.map_some, cutBit]
      split <;> rfl

end Sys2Proof.Machine
end

section
/-! What a Frame shifts out, byte by byte, the reads whose data is taken whole, Frames whose parameter bytes are not
whole, and PORT_RESET (R167 to R169, R172, R173, R179). -/

namespace Sys2Proof.Machine

/-! ### Parameter bytes that are not whole (R172, Table 9.1 step 6) -/

theorem exec_writeCommand {i : Instr} {p : Port} {f : Frame} {n : Nat} (h : writeCommand i = some (p, f, n)) :
    ∃ act, ∀ s : State, exec i s = .next (s.writeFrame p f n act) := by
  cases i <;> cases h <;> exact ⟨_, fun _ => rfl⟩

theorem State.transferFrame_short (s : State) (p : Port) (f : Frame) (refusal : State → Byte → Option Result)
    (fixed : State → Byte → Delivery × List Byte) (hr : s.takes p f)
    (hb : f.edges < (s.timingOf p f).lanes.edgesPerByte) :
    s.transferFrame p f refusal fixed = s.afterWrite p f .badFrame := by
  unfold State.transferFrame
  rw [State.takeCommand, hr.2, State.takeFrame_ready s p _ _ _ hr.1]
  exact if_pos hb

/-- A read command is one whose data is taken whole, or one that puts a transfer in flight. -/
theorem exec_readCommand {i : Instr} {p : Port} {f : Frame} {n : Nat} (h : readCommand i = some (p, f, n)) :
    (∃ refusal data, ∀ s : State, exec i s = .next (s.readFrame p f n refusal data)) ∨
      n = 1 ∧ ∃ refusal fixed, ∀ s : State, exec i s = .next (s.transferFrame p f refusal fixed) := by
  cases i with
  | readBlock | readMarks =>
    cases h
    exact .inr ⟨rfl, _, _, fun _ => rfl⟩
  | status | readEvents | readHolds | readPlan | readTracks | readLinks | readSetting =>
    cases h
    exact .inl ⟨_, _, fun _ => rfl⟩
  | _ => cases h

/-- Settles O8: each command is the Frame of its kind, and each kind of Frame judges its length first. -/
theorem parametersAreWhole : Obligations.ParametersAreWhole := by
  unfold Obligations.ParametersAreWhole
  refine fun i p f n s hf => ⟨fun hi hb => ?_, fun hi hb => ?_⟩
  · obtain ⟨act, hact⟩ := exec_writeCommand hi
    rw [hact, s.writeFrame_other p f n act hf hb]
  · obtain ⟨refusal, data, hread⟩ | ⟨rfl, refusal, fixed, htransfer⟩ := exec_readCommand hi
    · rw [hread, s.readFrame_short p f n refusal data hf hb]
    · rw [htransfer, s.transferFrame_short p f refusal fixed hf (by rwa [Nat.one_mul] at hb)]

/-! ### What goes out in read and write Frames (R167 to R169) -/

/-- What a Frame with a complete command byte leaves at its port. -/
theorem State.reply_ports (s : State) (p : Port) (f : Frame) (rest : Nat → List (Option Byte)) (r : Result) :
    ((s.reply p f rest).setResult p r).ports = s.ports.set p { s.ports.get p with
      result := r
      out := s.resultOut p ++ rest (f.edges / (s.timingOf p f).lanes.edgesPerByte)
      part := leadingBits (partLength (s.timingOf p f).lanes f.edges)
        ((rest (f.edges / (s.timingOf p f).lanes.edgesPerByte + 1)).getD
          (f.edges / (s.timingOf p f).lanes.edgesPerByte) none)
      ended := none } := by
  have hlong : ¬f.edges + 8 < 8 := by omega
  cases p <;> simp [State.reply, State.send, wireOut, hlong, wholeBytes, State.withResult, State.resultOut] <;> rfl

theorem readOut_eq (w : LaneWidth) {n k : Nat} (data : List Byte) (h : n ≤ k) :
    readOut w n data k = (List.range k).map (repliedByte w n data) := by
  have hlen : (readOut w n data k).length = k := by simp [readOut, paramOut_length]; omega
  apply List.ext_getElem?
  intro i
  by_cases hi : i < k
  · rw [readOut_getElem? w n data k i h hi]
    simp [hi]
  · rw [List.getElem?_eq_none (by omega), List.getElem?_eq_none (by simp; omega)]

/-- A byte that the part answers to a parameter byte (R168, R169). -/
def paramByte : LaneWidth → Option Byte
  | .one => some 0
  | .four => none

theorem paramOut_eq (w : LaneWidth) (n : Nat) : paramOut w n = List.replicate n (paramByte w) := by cases w <;> rfl

theorem leadingBits_paramByte (w : LaneWidth) (n : Nat) :
    leadingBits n (paramByte w) = List.replicate n ((paramByte w).map fun _ => false) := by
  cases w with
  | one => exact leadingBits_zero n
  | four => apply List.ext_getElem <;> simp [leadingBits, paramByte]

theorem State.afterRead_ports (s : State) (p : Port) (f : Frame) {n : Nat} (data : List Byte) (r : Result)
    (h : n ≤ f.edges / (s.timingOf p f).lanes.edgesPerByte) :
    (s.afterRead p f n data r).ports = s.ports.set p { s.ports.get p with
      result := r
      out := s.resultOut p ++ (List.range (f.edges / (s.timingOf p f).lanes.edgesPerByte)).map
        (repliedByte (s.timingOf p f).lanes n data)
      part := leadingBits (partLength (s.timingOf p f).lanes f.edges)
        (repliedByte (s.timingOf p f).lanes n data (f.edges / (s.timingOf p f).lanes.edgesPerByte))
      ended := none } := by
  rw [State.afterRead, s.reply_ports, readOut_eq _ data h, List.getD_eq_getElem?_getD,
    readOut_getElem? _ n data _ _ (by omega) (Nat.lt_succ_self _), Option.getD_some]

theorem State.afterWrite_ports (s : State) (p : Port) (f : Frame) (r : Result) :
    (s.afterWrite p f r).ports = s.ports.set p { s.ports.get p with
      result := r
      out := s.resultOut p ++ List.replicate (f.edges / (s.timingOf p f).lanes.edgesPerByte)
        (paramByte (s.timingOf p f).lanes)
      part := List.replicate (partLength (s.timingOf p f).lanes f.edges)
        ((paramByte (s.timingOf p f).lanes).map fun _ => false)
      ended := none } := by
  rw [State.afterWrite, State.shifted, s.reply_ports, paramOut_eq, paramOut_eq, ← leadingBits_paramByte]
  simp

/-! ### The reads whose data is taken whole (R173) -/

theorem aligned_result (w : LaneWidth) (edges : Nat) :
    (if aligned w edges then Result.ok else .badFrame) = if edges % w.edgesPerByte = 0 then .ok else .badFrame := by
  simp [aligned]

/-- A read command without parameters. -/
theorem State.readFrame_bare (s : State) (p : Port) (f : Frame) (data : State → List Byte) (hf : s.takes p f) :
    s.readFrame p f 0 neverRefused (fun t _ => data t) = s.afterRead p f 0 (data s)
      (if f.edges % (s.timingOf p f).lanes.edgesPerByte = 0 then .ok else .badFrame) := by
  rw [s.readFrame_answered p f 0 neverRefused _ hf (by simp) rfl, aligned_result]

theorem exec_readSetting (p : Port) (f : Frame) (s : State) : exec (.readSetting p f) s = .next (s.readFrame p f 2
    (fun _ bs => if (settingOf (number bs 0 2)).isNone then some .range else none)
    fun t bs => t.settingData (number bs 0 2)) := rfl

/-- Settles O9: what goes out by `State.afterRead_ports` and `State.afterWrite_ports`, each read by
`State.readFrame_answered`. -/
theorem plainReads : Obligations.PlainReads := by
  unfold Obligations.PlainReads
  refine ⟨fun p f s n data r => ?_, fun p f s hf => ?_⟩
  · intro w k bits idle
    have hidle : idle = paramByte w := by
      simp only [idle]
      cases w <;> rfl
    refine ⟨fun h => s.afterRead_ports p f data r h, ?_⟩
    rw [hidle]
    exact s.afterWrite_ports p f r
  · intro r
    have hbare := fun data =>
      congrArg (Host.Outcome.next (φ := Fault) (ρ := Refusal)) (s.readFrame_bare p f data hf)
    refine ⟨hbare fun t => t.statusData p, hbare fun t => t.eventData p, hbare fun t => t.holdData p,
      hbare State.planData, hbare fun t => t.trackData p, hbare State.linkData, fun id hb hbytes hid => ?_⟩
    have hnumber : number (f.bytes (s.timingOf p f).lanes 2) 0 2 = id := by rw [hbytes, number_le 2 id hid]
    refine ⟨fun hx => ?_, fun x hx => ?_⟩
    · rw [exec_readSetting, s.readFrame_refused p f 2 .range _ _ hf hb (by simp [hnumber, hx])]
    · rw [exec_readSetting, s.readFrame_answered p f 2 _ _ hf hb (by simp [hnumber, hx]), aligned_result, hnumber,
        State.settingData, hx]

/-! ### PORT_RESET (R179) -/

theorem exec_portReset (p : Port) (f : Frame) (s : State) :
    exec (.portReset p f) s = .next (s.writeFrame p f 0 fun t _ => t.portReset p) := rfl

/-- A write Frame without parameter bytes shifts out the Result byte alone. -/
theorem State.shifted_bare (s : State) (p : Port) (f : Frame) (h : f.edges = 0) :
    s.shifted p f = s.setOut p (s.resultOut p) [] := by
  have hlong : ¬f.edges + 8 < 8 := by omega
  have hout : ∀ w, paramOut w 0 = [] := fun w => by cases w <;> rfl
  simp [State.shifted, State.reply, State.send, wireOut, State.withResult, wholeBytes, h, hout, partLength,
    leadingBits]

/-- Settles O12: `State.clearPort` field by field, after the Frame has shifted out. -/
theorem portReset : Obligations.PortReset := by
  unfold Obligations.PortReset
  intro p f s hf hb
  refine ⟨(s.setOut p (s.resultOut p) []).clearPort p, ?_, rfl, rfl, ?_, ?_, rfl, fun e => ?_⟩
  · rw [exec_portReset, s.writeFrame_bare p f _ hf hb, s.shifted_bare p f hb, State.portReset]
  · cases p <;> rfl
  · cases p <;> rfl
  · refine (Ring.withoutHoldsOf_hold s.ring p e).trans ?_
    cases s.ring.holds[e] with
    | none => rfl
    | some h =>
      by_cases ho : h.owner = p <;> simp [ho]

end Sys2Proof.Machine
end

section
/-! The queue of waiting commands and the records of both ports: what the blocks behind the ports leave alone (R170;
log entry 3). -/

namespace Sys2Proof.Machine

/-- The queue of waiting commands and the records of both ports. -/
def State.desk (s : State) : List Instr × Both PortState := (s.pending, s.ports)

section
variable {s t : State}

theorem State.pending_of_desk (h : t.desk = s.desk) : t.pending = s.pending := congrArg Prod.fst h

/-- A state that another one's equation describes. -/
theorem State.desk_congr {u : State} (h : t = u) (hu : u.desk = s.desk) : t.desk = s.desk := h ▸ hu

theorem State.pending_ite {c : Prop} [Decidable c] {x y : State} (hx : x.pending = s.pending)
    (hy : y.pending = s.pending) : (if c then x else y).pending = s.pending :=
  iteInduction (motive := fun z : State => z.pending = s.pending) (fun _ => hx) fun _ => hy

theorem State.desk_ite {c : Prop} [Decidable c] {x y : State} (hx : x.desk = s.desk) (hy : y.desk = s.desk) :
    (if c then x else y).desk = s.desk :=
  iteInduction (motive := fun z : State => z.desk = s.desk) (fun _ => hx) fun _ => hy

/-- Both answers of a command. -/
theorem State.desk_answered {c : Prop} [Decidable c] {x y : Result × State} (hx : x.2.desk = s.desk)
    (hy : y.2.desk = s.desk) : (if c then x else y).2.desk = s.desk :=
  iteInduction (motive := fun z : Result × State => z.2.desk = s.desk) (fun _ => hx) fun _ => hy

end

/-! ### The ring, the Marks and the Readers -/

section
variable (s : State)

theorem State.evaluate_desk (p : Port) : (s.evaluate p).desk = s.desk := by
  obtain ⟨_, _, h⟩ := s.evaluate_keeps p
  exact State.desk_congr h rfl

theorem State.drainGap_desk : s.drainGap.desk = s.desk := by
  obtain ⟨_, _, _, h⟩ := s.drainGap_keeps
  exact State.desk_congr h rfl

theorem State.drainLost_desk : s.drainLost.desk = s.desk := by
  obtain ⟨_, _, _, h⟩ := s.drainLost_keeps
  exact State.desk_congr h rfl

theorem State.requestMark_desk (q : MarkRequest) : (s.requestMark q).desk = s.desk := by
  obtain ⟨_, _, _, h⟩ := s.requestMark_keeps q
  exact State.desk_congr h rfl

theorem State.delivered_desk (p : Port) (d : Delivery) : (s.delivered p d).desk = s.desk := by
  obtain ⟨_, _, _, h⟩ := s.delivered_keeps p d
  exact State.desk_congr h rfl

/-! ### The links, the clock and the Bench Lines -/

theorem State.receiveLink_desk (n : Fin 8) (x : LinkInput) : (s.receiveLink n x).desk = s.desk := by
  obtain ⟨_, _, _, h⟩ := s.receiveLink_keeps n x
  exact State.desk_congr h rfl

theorem State.receiveTransition_desk (n : Fin 8) (x : LinkInput) (before after : LinkState) :
    (s.receiveTransition n x before after).desk = s.desk := State.desk_ite (s.receiveLink_desk n x) rfl

theorem State.enableLink_desk (n : Fin 8) (on : Bool) : (s.enableLink n on).desk = s.desk := by
  obtain ⟨_, _, _, _, h⟩ := s.enableLink_keeps n on
  exact State.desk_congr h rfl

theorem State.loseHouse_desk : s.loseHouse.desk = s.desk := by
  obtain ⟨_, _, _, h⟩ := s.loseHouse_keeps
  exact State.desk_congr h rfl

theorem State.houseReturns_desk : s.houseReturns.desk = s.desk := by
  obtain ⟨_, h⟩ := s.setClockState_keeps .house
  exact State.desk_congr h rfl

theorem State.applySource_desk (x : ClockSource) : (s.applySource x).desk = s.desk := by
  obtain ⟨_, h⟩ := s.applySource_keeps x
  exact State.desk_congr h rfl

theorem State.request_desk (wanted : ProceedingsState) (who : Party) : (s.request wanted who).2.desk = s.desk := by
  obtain ⟨_, _, _, _, h | ⟨_, h⟩⟩ := s.request_keeps wanted who <;> exact State.desk_congr h rfl

theorem State.acceptLine_desk (l : Line) : (s.acceptLine l).desk = s.desk := by
  obtain ⟨_, _, _, _, h, _⟩ := s.acceptLine_keeps l
  exact State.desk_congr h rfl

/-! ### The Block Boundary -/

theorem State.ifDue_desk (due : State → Bool) {act : State → State} (hact : ∀ u : State, (act u).desk = u.desk) :
    (s.ifDue due act).desk = s.desk := State.desk_ite (hact s) rfl

theorem State.closeNow_desk : s.closeNow.desk = s.desk := by
  obtain ⟨_, _, _, h⟩ := s.closeNow_keeps
  exact State.desk_congr h rfl

theorem State.takeTarget_desk : s.takeTarget.desk = s.desk := by
  obtain ⟨_, _, _, _, _, h⟩ := s.takeTarget_keeps
  exact State.desk_congr h rfl

theorem State.takeArmed_desk : s.takeArmed.desk = s.desk := by
  cases hp : s.plans.armed with
  | none => rw [State.takeArmed, hp]
  | some plan =>
    obtain ⟨_, _, _, _, h⟩ := s.takeArmed_keeps plan hp
    exact State.desk_congr h rfl

theorem State.takeGains_desk (order : List (Fin 32)) : (s.takeGains order).desk = s.desk := by
  obtain ⟨_, _, _, _, _, _, h⟩ := s.takeGains_keeps order
  exact State.desk_congr h rfl

theorem State.takeSource_desk : s.takeSource.desk = s.desk := by
  cases hx : s.changes.source with
  | none => rw [State.takeSource, hx]
  | some x =>
    obtain ⟨_, _, _, _, h⟩ := s.takeSource_keeps x hx
    exact State.desk_congr h rfl

theorem State.takeReturn_desk : s.takeReturn.desk = s.desk := by
  obtain ⟨_, _, _, _, h⟩ := s.takeReturn_keeps
  exact State.desk_congr h rfl

theorem State.flushFloor_desk : s.flushFloor.desk = s.desk := by
  obtain ⟨_, _, _, _, h⟩ := s.flushFloor_keeps
  exact State.desk_congr h rfl

theorem State.finishTurned_desk : s.finishTurned.desk = s.desk :=
  calc s.finishTurned.desk
    _ = _ := State.flushFloor_desk _
    _ = _ := State.ifDue_desk _ _ State.takeReturn_desk
    _ = _ := State.ifDue_desk _ _ State.takeSource_desk
    _ = _ := State.ifDue_desk _ _ fun u => u.takeGains_desk []
    _ = _ := State.ifDue_desk _ _ State.takeArmed_desk
    _ = _ := State.ifDue_desk _ _ State.takeTarget_desk
    _ = s.desk := State.ifDue_desk _ _ State.closeNow_desk

theorem State.turn_desk (floorAfter : Nat) : (s.turn floorAfter).desk = s.desk := by
  obtain ⟨_, _, _, _, _, _, _, _, _, _, _, h, _⟩ := s.turn_keeps floorAfter
  exact State.desk_congr h rfl

theorem State.finishBoundary_desk : s.finishBoundary.desk = s.desk := by
  unfold State.finishBoundary
  split
  · rfl
  · rw [State.finishTurned_desk, State.turn_desk]
  · exact s.finishTurned_desk

theorem State.endPeriod_desk : s.endPeriod.desk = s.desk := by
  obtain ⟨_, _, _, _, _, _, _, hend, _⟩ := s.endPeriod_keeps
  exact State.desk_congr hend rfl

theorem State.beginBoundary_desk : s.beginBoundary.desk = s.desk := by
  obtain ⟨_, _, _, h⟩ := s.beginBoundary_keeps
  have hend := s.endPeriod_desk
  generalize s.endPeriod = u at h hend
  exact State.desk_congr h hend

theorem State.reachTurned_desk (floorAfter : Nat) : (s.reachTurned floorAfter).desk = s.desk := by
  have hbegun : s.reachBegun.desk = s.desk := State.desk_ite s.beginBoundary_desk rfl
  unfold State.reachTurned
  dsimp only
  split
  · rw [State.turn_desk, hbegun]
  · exact hbegun
  · exact hbegun

theorem State.atBoundary_desk (due : State → Bool) {act : State → State} (hact : ∀ u : State, (act u).desk = u.desk) :
    (s.atBoundary due act).desk = s.desk := State.desk_ite ((hact _).trans (s.reachTurned_desk 0)) rfl

theorem State.samplePeriod_desk (edge : Bool) (levels : BenchLevels) : (s.samplePeriod edge levels).desk = s.desk := by
  have hended : (if s.boundaryDue then s.beginBoundary else if s.inPeriod then s.endPeriod else s).desk = s.desk :=
    State.desk_ite s.beginBoundary_desk (State.desk_ite s.endPeriod_desk rfl)
  obtain ⟨_, _, _, h, _⟩ := State.startPeriod_keeps
    (if s.boundaryDue then s.beginBoundary else if s.inPeriod then s.endPeriod else s).finishBoundary edge levels
  exact State.desk_congr h ((State.finishBoundary_desk _).trans hended)

/-! ### The commands of the ports -/

theorem State.attach_desk (p : Port) (position : Byte) : (s.attach p position).2.desk = s.desk :=
  State.desk_answered rfl (State.desk_answered rfl (State.desk_answered rfl (State.evaluate_desk _ p)))

theorem State.detach_desk (p : Port) : (s.detach p).2.desk = s.desk :=
  State.desk_answered ((State.drainLost_desk _).trans (State.drainGap_desk _)) rfl

theorem State.release_desk (p : Port) (seq : Nat) : (s.release p seq).2.desk = s.desk :=
  State.desk_answered rfl
    (State.desk_answered rfl ((State.drainGap_desk _).trans (State.evaluate_desk _ p)))

theorem State.seek_desk (p : Port) (seq : Nat) : (s.seek p seq).2.desk = s.desk :=
  State.desk_answered rfl (State.desk_answered rfl (State.desk_answered rfl (State.evaluate_desk _ p)))

theorem State.placeHold_desk (p : Port) (first last : Nat) : (s.placeHold p first last).2.desk = s.desk := by
  refine State.desk_answered rfl (State.desk_answered rfl ?_)
  split <;> rfl

theorem State.dropHold_desk (p : Port) (entry : Nat) : (s.dropHold p entry).2.desk = s.desk := by
  unfold State.dropHold
  split
  · split
    · rfl
    · exact State.desk_answered (State.drainGap_desk _) rfl
  · rfl

theorem State.addNote_desk (p : Port) (option : Byte) (time arg tag : Nat) :
    (s.addNote p option time arg tag).2.desk = s.desk :=
  State.desk_answered rfl (State.desk_answered rfl (s.requestMark_desk _))

theorem State.openSession_desk (p : Port) (flag : Byte) : (s.openSession p flag).2.desk = s.desk :=
  State.desk_answered rfl (State.desk_answered rfl (State.desk_answered rfl (State.requestMark_desk _ _)))

theorem State.requestClose_desk (p : Port) : (s.requestClose p).2.desk = s.desk :=
  State.desk_answered rfl (State.desk_answered rfl rfl)

theorem State.setState_desk (p : Port) (code : Byte) : (s.setState p code).2.desk = s.desk := by
  unfold State.setState
  split
  · rfl
  · exact s.request_desk _ _

theorem State.planSetGroup_desk (p : Port) (entry first count : Nat) (code : Byte) :
    (s.planSetGroup p entry first count code).2.desk = s.desk := by
  unfold State.planSetGroup
  split
  · split <;> rfl
  · rfl

theorem State.planSetFormat_desk (p : Port) (width total : Nat) : (s.planSetFormat p width total).2.desk = s.desk :=
  State.desk_answered rfl (State.desk_answered rfl rfl)

theorem State.activatePlan_desk (expected : BitVec 16) : (s.activatePlan expected).2.desk = s.desk := by
  refine State.desk_answered rfl ?_
  split
  · rfl
  · exact State.desk_answered rfl (State.desk_answered rfl rfl)

theorem State.setGain_desk (track gain : Nat) : (s.setGain track gain).2.desk = s.desk := by
  unfold State.setGain
  split
  · rfl
  · exact State.desk_ite rfl rfl

theorem State.storeSettings_desk (p : Port) : (s.storeSettings p).2.desk = s.desk :=
  State.desk_answered rfl (State.desk_answered rfl rfl)

theorem State.written_desk {s t : State} {x : SettingName} {v : Nat} (h : s.written x v = some t) :
    t.desk = s.desk := by
  cases x with
  | bench => exact nomatch h
  | threshold | attack | hangover | margin | challenge =>
    obtain ⟨w, _, rfl⟩ := Option.map_eq_some_iff.1 h
    exact State.desk_ite rfl rfl
  | eligible =>
    obtain ⟨w, _, rfl⟩ := Option.map_eq_some_iff.1 h
    exact State.desk_ite rfl (State.desk_ite rfl rfl)
  | source =>
    obtain ⟨w, _, rfl⟩ := Option.map_eq_some_iff.1 h
    exact State.desk_ite rfl (State.applySource_desk _ w)
  | linkEnable n =>
    obtain ⟨w, _, rfl⟩ := Option.map_eq_some_iff.1 h
    exact s.enableLink_desk n w
  | fill | latency | lanes | retention | access | guard =>
    obtain ⟨w, _, rfl⟩ := Option.map_eq_some_iff.1 h
    rfl

theorem State.writeSetting_desk (id value : Nat) : (s.writeSetting id value).2.desk = s.desk := by
  unfold State.writeSetting
  split
  · rfl
  · split
    · rfl
    · exact State.desk_answered rfl (State.written_desk ‹_›)

end

end Sys2Proof.Machine
end

section
/-! What a Frame of one port leaves alone: the queue of waiting commands and the other port's record (R170). -/

namespace Sys2Proof.Machine

/-- The queue of waiting commands and the record of the other port: out of reach of a Frame of port `p`. -/
def State.beyond (s : State) (p : Port) : List Instr × PortState := (s.pending, s.ports.get (otherPort p))

section
variable {s t : State} {p : Port}

theorem State.beyond_of_desk (h : t.desk = s.desk) : t.beyond p = s.beyond p :=
  congrArg (fun d : List Instr × Both PortState => (d.1, d.2.get (otherPort p))) h

theorem State.pending_of_beyond (h : t.beyond p = s.beyond p) : t.pending = s.pending := congrArg Prod.fst h

theorem State.beyond_ite {c : Prop} [Decidable c] {x y : State} (hx : x.beyond p = s.beyond p)
    (hy : y.beyond p = s.beyond p) : (if c then x else y).beyond p = s.beyond p :=
  iteInduction (motive := fun z : State => z.beyond p = s.beyond p) (fun _ => hx) fun _ => hy

end

/-! ### A Frame (R169 to R175) -/

section
variable (s : State) (p : Port)

theorem State.setResult_beyond (r : Result) : (s.setResult p r).beyond p = s.beyond p := by cases p <;> rfl

theorem State.setOut_beyond (b : List (Option Byte)) (c : List (Option Bool)) :
    (s.setOut p b c).beyond p = s.beyond p := by cases p <;> rfl

theorem State.setLatch_beyond (b : Bool) : (s.setLatch p b).beyond p = s.beyond p := by cases p <;> rfl

theorem State.answer_beyond (w : LaneWidth) (edges : Nat) (r : Result) :
    (s.answer p w edges r).beyond p = s.beyond p := (State.setResult_beyond _ p r).trans (s.setOut_beyond p _ _)

theorem State.rise_beyond (more : Nat) : (s.rise p more).beyond p = s.beyond p := by
  unfold State.rise
  split
  · rfl
  · have hrisen : ∀ x b c r, (((s.setReader p x).setOut p b c).setResult p r).beyond p = s.beyond p := fun x b c r =>
      (State.setResult_beyond _ p r).trans (State.setOut_beyond _ p b c)
    exact State.beyond_ite ((State.beyond_of_desk (State.delivered_desk _ p _)).trans (hrisen _ _ _ _))
      (hrisen _ _ _ _)

theorem State.atFrame_beyond : (s.atFrame p).beyond p = s.beyond p :=
  State.beyond_ite rfl ((State.rise_beyond _ p 0).trans (State.beyond_of_desk s.finishBoundary_desk))

variable {act : State → State}

/-- A Frame leaves alone what its row leaves alone, however RESET meets it. -/
theorem State.takeFrame_beyond (w : LaneWidth) (edges : Nat) (reset : AtReset)
    (hact : ∀ t : State, (act t).beyond p = t.beyond p) :
    (s.takeFrame p w edges reset act).beyond p = s.beyond p := by
  have hjudged : (s.judge p w edges act).beyond p = s.beyond p :=
    State.beyond_ite (s.answer_beyond p w edges .busy) ((hact _).trans (s.atFrame_beyond p))
  unfold State.takeFrame
  refine State.beyond_ite rfl ?_
  cases reset with
  | steady => exact State.beyond_ite (s.setOut_beyond p _ _) hjudged
  | asserted k => exact State.beyond_ite rfl ((State.setOut_beyond _ p _ _).trans (s.atFrame_beyond p))
  | released => exact State.beyond_ite (s.setOut_beyond p _ _) rfl

theorem State.writeFrame_beyond (f : Frame) (n : Nat) {act : State → List Byte → Result × State}
    (hact : ∀ t bs, (act t bs).2.beyond p = t.beyond p) : (s.writeFrame p f n act).beyond p = s.beyond p :=
  s.takeFrame_beyond p _ _ f.reset fun t =>
    State.beyond_ite ((State.setResult_beyond _ p _).trans ((hact _ _).trans (t.setOut_beyond p _ _)))
      ((State.setResult_beyond _ p _).trans (t.setOut_beyond p _ _))

theorem State.reply_beyond (f : Frame) (rest : Nat → List (Option Byte)) (r : Result) :
    ((s.reply p f rest).setResult p r).beyond p = s.beyond p :=
  (State.setResult_beyond _ p r).trans (s.setOut_beyond p _ _)

theorem State.readFrame_beyond (f : Frame) (n : Nat) (refusal : State → List Byte → Option Result)
    (data : State → List Byte → List Byte) : (s.readFrame p f n refusal data).beyond p = s.beyond p := by
  refine s.takeFrame_beyond p _ _ f.reset fun t => State.beyond_ite (t.reply_beyond p f _ _) ?_
  split <;> exact t.reply_beyond p f _ _

theorem State.transferFrame_beyond (f : Frame) (refusal : State → Byte → Option Result)
    (fixed : State → Byte → Delivery × List Byte) : (s.transferFrame p f refusal fixed).beyond p = s.beyond p := by
  refine s.takeFrame_beyond p _ _ f.reset fun t => State.beyond_ite (t.reply_beyond p f _ _) ?_
  split
  · exact t.reply_beyond p f _ _
  · exact State.beyond_ite (t.reply_beyond p f _ _) (t.setOut_beyond p _ _)

theorem State.portReset_beyond : (s.portReset p).2.beyond p = s.beyond p := by
  have hclear : (s.clearPort p).beyond p = s.beyond p := by cases p <;> rfl
  exact (State.beyond_of_desk ((State.drainLost_desk _).trans (State.drainGap_desk _))).trans hclear

theorem State.disableStore_beyond : (s.disableStore p).2.beyond p = s.beyond p :=
  iteInduction (motive := fun z : Result × State => z.2.beyond p = s.beyond p) (fun _ => rfl)
    fun _ => s.setLatch_beyond p false

end

/-- A command of Table 9.2 leaves the queue and the other port's record alone. -/
theorem portCommand_beyond {i : Instr} {p : Port} {f : Frame} (h : portCommand i = some (p, f)) (s : State) :
    ∃ t, exec i s = .next t ∧ t.beyond p = s.beyond p := by
  have hwrite := fun n (act : State → List Byte → Result × State) (hact : ∀ t bs, (act t bs).2.beyond p = t.beyond p) =>
    s.writeFrame_beyond p f n hact
  have hdesk := fun n (act : State → List Byte → Result × State) (hact : ∀ t bs, (act t bs).2.desk = t.desk) =>
    hwrite n act fun t bs => State.beyond_of_desk (hact t bs)
  cases i with
  | status | readEvents | readHolds | readPlan | readTracks | readLinks | readSetting =>
    cases h
    exact ⟨_, rfl, s.readFrame_beyond p f _ _ _⟩
  | readBlock | readMarks =>
    cases h
    exact ⟨_, rfl, s.transferFrame_beyond p f _ _⟩
  | ackEvents | setMask | planClear => cases h; exact ⟨_, rfl, hdesk _ _ fun _ _ => rfl⟩
  | portReset => cases h; exact ⟨_, rfl, hwrite _ _ fun t _ => t.portReset_beyond p⟩
  | attach => cases h; exact ⟨_, rfl, hdesk _ _ fun t _ => t.attach_desk p _⟩
  | detach => cases h; exact ⟨_, rfl, hdesk _ _ fun t _ => t.detach_desk p⟩
  | release => cases h; exact ⟨_, rfl, hdesk _ _ fun t _ => t.release_desk p _⟩
  | seek => cases h; exact ⟨_, rfl, hdesk _ _ fun t _ => t.seek_desk p _⟩
  | setAvailLevel | setLagLevel => cases h; exact ⟨_, rfl, hdesk _ _ fun _ _ => State.evaluate_desk _ p⟩
  | placeHold => cases h; exact ⟨_, rfl, hdesk _ _ fun t _ => t.placeHold_desk p _ _⟩
  | dropHold => cases h; exact ⟨_, rfl, hdesk _ _ fun t _ => t.dropHold_desk p _⟩
  | addNote => cases h; exact ⟨_, rfl, hdesk _ _ fun t _ => t.addNote_desk p _ _ _ _⟩
  | openSession => cases h; exact ⟨_, rfl, hdesk _ _ fun t _ => t.openSession_desk p _⟩
  | closeSession => cases h; exact ⟨_, rfl, hdesk _ _ fun t _ => t.requestClose_desk p⟩
  | setState => cases h; exact ⟨_, rfl, hdesk _ _ fun t _ => t.setState_desk p _⟩
  | planSetGroup => cases h; exact ⟨_, rfl, hdesk _ _ fun t _ => t.planSetGroup_desk p _ _ _ _⟩
  | planSetFormat => cases h; exact ⟨_, rfl, hdesk _ _ fun t _ => t.planSetFormat_desk p _ _⟩
  | activatePlan => cases h; exact ⟨_, rfl, hdesk _ _ fun t _ => t.activatePlan_desk _⟩
  | setGain => cases h; exact ⟨_, rfl, hdesk _ _ fun t _ => t.setGain_desk _ _⟩
  | writeSetting => cases h; exact ⟨_, rfl, hdesk _ _ fun t _ => t.writeSetting_desk _ _⟩
  | enableStore => cases h; exact ⟨_, rfl, hwrite _ _ fun t _ => t.setLatch_beyond p true⟩
  | disableStore => cases h; exact ⟨_, rfl, hwrite _ _ fun t _ => t.disableStore_beyond p⟩
  | storeSettings => cases h; exact ⟨_, rfl, hdesk _ _ fun t _ => t.storeSettings_desk p⟩
  | _ => cases h

/-- Settles O7: the other port's record is a part of `State.beyond`. -/
theorem framesLeaveOtherPort : Obligations.FramesLeaveOtherPort := by
  unfold Obligations.FramesLeaveOtherPort
  intro i p f s t hi ht
  obtain ⟨u, hu, hbeyond⟩ := portCommand_beyond hi s
  rw [hu] at ht
  cases ht
  exact congrArg Prod.snd hbeyond

/-! ### The commands that are no command of a port -/

section
variable (s : State)

theorem State.completeLoad_desk : s.completeLoad.desk = s.desk := State.desk_ite rfl rfl

theorem State.assertReset_pending : s.assertReset.pending = s.pending := by
  unfold State.assertReset
  split
  · rfl
  · rfl
  · have hfinished : s.finishBoundary.pending = s.pending := State.pending_of_desk s.finishBoundary_desk
    exact hfinished

theorem State.completeStore_pending : s.completeStore.pending = s.pending := by
  unfold State.completeStore
  split
  · rfl
  · exact State.pending_ite rfl rfl

theorem State.riseOf_beyond (p : Port) (ofBlock : Bool) (more : Nat) :
    (s.riseOf p ofBlock more).beyond p = s.beyond p := by
  refine State.beyond_ite ((State.rise_beyond _ p more).trans (State.beyond_of_desk s.finishBoundary_desk)) ?_
  obtain hkept | ⟨out, part, hkept⟩ := s.riseEnded_keeps p ofBlock more <;> rw [hkept]
  exact s.setOut_beyond p out part

/-- A Frame that gets an answer whatever it holds. -/
theorem State.takeAnswer_pending (p : Port) (w : LaneWidth) (edges : Nat) (reset : AtReset) (r : Result) :
    (s.takeFrame p w edges reset fun t => t.answer p w edges r).pending = s.pending :=
  State.pending_of_beyond (s.takeFrame_beyond p w edges reset fun t => t.answer_beyond p w edges r)

theorem exec_samplePeriod_desk (edge : Bool) (levels : BenchLevels) :
    ∃ t, exec (.samplePeriod edge levels) s = .next t ∧ t.desk = s.desk := by
  cases hp : s.power with
  | off | loading => exact ⟨s, by simp [exec, execSamplePeriod, hp], rfl⟩
  | running =>
    cases hr : s.resetLine with
    | false => exact ⟨_, exec_samplePeriod edge levels s hp hr, s.samplePeriod_desk edge levels⟩
    | true => exact ⟨{ s with frameSyncs := s.frameSyncs + 1 }, by simp [exec, execSamplePeriod, hp, hr], rfl⟩

end

/-- A command that is no command of a port leaves the queue alone. -/
theorem otherCommand_pending {i : Instr} (h : portCommand i = none) (s : State) :
    ∃ t, exec i s = .next t ∧ t.pending = s.pending := by
  have hkept : ∀ {t : State}, exec i s = .next t → t.desk = s.desk → ∃ t, exec i s = .next t ∧ t.pending = s.pending :=
    fun ht hd => ⟨_, ht, State.pending_of_desk hd⟩
  cases i with
  | powerOn | powerLoss | zeroByteFrame => exact ⟨_, rfl, rfl⟩
  | settingsLoadComplete => exact hkept rfl (State.desk_ite s.completeLoad_desk rfl)
  | resetAssert => exact ⟨_, rfl, State.pending_ite rfl s.assertReset_pending⟩
  | resetRelease => exact ⟨_, rfl, State.pending_ite rfl rfl⟩
  | samplePeriod edge levels =>
    obtain ⟨t, ht, hd⟩ := exec_samplePeriod_desk s edge levels
    exact hkept ht hd
  | linkFrame n x => exact hkept rfl (State.desk_ite (s.receiveLink_desk n x) rfl)
  | linkLock n x | linkSeekTimeout n x | linkRelock n x | linkDown n x =>
    exact hkept rfl (s.receiveTransition_desk n x _ _)
  | houseClockLoss => exact hkept rfl (State.desk_ite (State.loseHouse_desk _) rfl)
  | houseClockReturn =>
    exact hkept rfl (State.desk_ite (State.houseReturns_desk _) (s.atBoundary_desk _ State.takeReturn_desk))
  | benchLineAccept l => exact hkept rfl (State.desk_ite (s.acceptLine_desk l) rfl)
  | blockBoundary k => exact hkept rfl (State.desk_ite (s.reachTurned_desk k) rfl)
  | storeGapBlock =>
    exact hkept rfl (State.desk_ite ((State.drainGap_desk _).trans s.finishBoundary_desk) rfl)
  | marksLostStore =>
    exact hkept rfl (State.desk_ite ((State.drainLost_desk _).trans s.finishBoundary_desk) rfl)
  | pendingTargetTake => exact hkept rfl (s.atBoundary_desk _ State.takeTarget_desk)
  | sessionClose | sessionLengthLimit => exact hkept rfl (s.atBoundary_desk _ State.closeNow_desk)
  | planActivate => exact hkept rfl (s.atBoundary_desk _ State.takeArmed_desk)
  | pendingGainApply order => exact hkept rfl (s.atBoundary_desk _ fun u => u.takeGains_desk order)
  | pendingSettingApply => exact hkept rfl (State.desk_ite s.beginBoundary_desk rfl)
  | clockSourceApply => exact hkept rfl (s.atBoundary_desk _ State.takeSource_desk)
  | storeCompletion => exact ⟨_, rfl, s.completeStore_pending⟩
  | frameDuringLoad p f =>
    exact ⟨_, rfl, State.pending_ite rfl (s.takeAnswer_pending p _ f.edges f.reset .busy)⟩
  | shortFrame p f =>
    exact ⟨_, rfl, State.pending_ite (s.takeAnswer_pending p .one f.edges f.reset .badFrame) rfl⟩
  | unknownCommand p c f =>
    exact ⟨_, rfl, State.pending_ite (State.pending_of_beyond
      (s.takeFrame_beyond p _ _ f.reset fun t => t.reply_beyond p f zeros .unknown)) rfl⟩
  | readBlockEnd p more | readMarksEnd p more => exact ⟨_, rfl, State.pending_of_beyond (s.riseOf_beyond p _ more)⟩
  | _ => cases h

/-- Settles O2: a command of a port by `portCommand_beyond`, any other by `otherCommand_pending`. -/
theorem commandsAlwaysComplete : Obligations.CommandsAlwaysComplete := by
  unfold Obligations.CommandsAlwaysComplete
  intro c s
  cases hc : portCommand c with
  | none => exact otherCommand_pending hc s
  | some x =>
    obtain ⟨t, ht, hbeyond⟩ := portCommand_beyond (p := x.1) (f := x.2) hc s
    exact ⟨t, ht, State.pending_of_beyond hbeyond⟩

end Sys2Proof.Machine
end

section
/-! The commands of the Event Unit, ACK_EVENTS and SET_MASK, and the Attention line after them (R184 to R186). -/

namespace Sys2Proof.Machine

theorem exec_ackEvents (p : Port) (f : Frame) (s : State) : exec (.ackEvents p f) s =
    .next (s.writeFrame p f 2 fun t bs => (.ok, t.ackEvents p (BitVec.ofNat 16 (number bs 0 2)))) := rfl

theorem exec_setMask (p : Port) (f : Frame) (s : State) : exec (.setMask p f) s =
    .next (s.writeFrame p f 2 fun t bs => (.ok, t.setMask p (BitVec.ofNat 16 (number bs 0 2)))) := rfl

/-- The state after a write Frame that was OK and left its port these Event Flags and this Mask. -/
def State.afterEvents (s : State) (p : Port) (f : Frame) (x : EventPort) : State :=
  { s.afterWrite p f .ok with events := s.events.set p x }

/-- A write command whose parameter is a 16-bit value, and which only replaces its port's Event Flags and Mask. -/
theorem State.writeFrame_events (s : State) (p : Port) (f : Frame) (v : BitVec 16) {x : EventPort}
    {act : State → BitVec 16 → State} (htakes : s.takes p f) (hhears : s.hears p f (le 2 v.toNat))
    (hact : act (s.shifted p f) v = { s.shifted p f with events := s.events.set p x }) :
    s.writeFrame p f 2 (fun t bs => (.ok, act t (BitVec.ofNat 16 (number bs 0 2)))) = s.afterEvents p f x := by
  have hvalue : BitVec.ofNat 16 v.toNat = v := by rw [BitVec.ofNat_toNat, BitVec.setWidth_eq]
  exact s.writeFrame_number p f (act := fun t n => (.ok, act t (BitVec.ofNat 16 n))) htakes hhears v.isLt
    (by rw [hvalue, hact])

/-- The Attention line of a running part out of RESET (R186). -/
theorem State.attention_running {s : State} (hpower : s.power = .running) (hreset : s.resetLine = false) (p : Port) :
    s.attention p = (decide ((s.events.get p).flags &&& (s.events.get p).mask ≠ 0) &&
      decide ((s.readers.get p).pair = .complete)) := by
  simp only [State.attention, hpower, hreset, Bool.not_false, Bool.true_and]

/-- The Attention line follows the Event Flags and the Mask that a Frame left. -/
theorem State.afterEvents_attention {s : State} {p : Port} (h : s.ready p) (f : Frame) (x : EventPort) :
    (s.afterEvents p f x).attention p =
      (decide (x.flags &&& x.mask ≠ 0) && decide ((s.readers.get p).pair = .complete)) := by
  obtain ⟨hpower, hreset, -, -⟩ := h
  have hevents : (s.afterEvents p f x).events.get p = x := s.events.get_set p x
  rw [State.attention_running (s := s.afterEvents p f x) hpower hreset, hevents]
  rfl

/-- Settles O11: both commands by `State.writeFrame_events`, the Attention line by `State.afterEvents_attention`. -/
theorem eventCommands : Obligations.EventCommands := by
  unfold Obligations.EventCommands
  intro p f v s htakes hhears
  have hattention := s.afterEvents_attention htakes.1 f
  refine ⟨⟨_, (exec_ackEvents p f s).trans (congrArg _ ?_), rfl, hattention _⟩,
    ⟨_, (exec_setMask p f s).trans (congrArg _ ?_), rfl, hattention _⟩⟩
  · exact s.writeFrame_events p f v (act := fun t w => t.ackEvents p w) htakes hhears rfl
  · exact s.writeFrame_events p f v (act := fun t w => t.setMask p w) htakes hhears rfl

end Sys2Proof.Machine
end

section
/-! The ranges of Table 11.1, value by value, and what a written, pending or applied value makes of them (R62, R188,
R190). -/

namespace Sys2Proof.Machine

/-! ### The settings of a Track number (Table 4.1) -/

theorem TrackSettings.inRange_iff (t : TrackSettings) : t.inRange = true ↔
    t.threshold ≤ 32767 ∧ 1 ≤ t.attack ∧ t.attack ≤ 15 ∧ t.hangover ≤ 255 := decide_eq_true_iff

/-- A value with a bound that waits, or the one in effect, keeps the bound. -/
theorem getD_bounded {P : Nat → Prop} {waiting : Option Nat} {v : Nat} (hw : ∀ w, waiting = some w → P w)
    (hv : P v) : P (waiting.getD v) := by
  cases waiting with
  | none => exact hv
  | some w => exact hw w rfl

theorem TrackSettings.taking_inRange {t : TrackSettings} {c : PendingTrack} (ht : t.inRange = true)
    (hc : c.inRange) : (t.taking c).inRange = true := by
  obtain ⟨hthreshold, hleast, hmost, hhangover⟩ := t.inRange_iff.1 ht
  obtain ⟨hthreshold', hattack', hhangover'⟩ := hc
  obtain ⟨hleast', hmost'⟩ := getD_bounded (P := fun v => 1 ≤ v ∧ v ≤ 15) hattack' ⟨hleast, hmost⟩
  exact (TrackSettings.inRange_iff _).2 ⟨getD_bounded (P := (· ≤ 32767)) hthreshold' hthreshold, hleast', hmost',
    getD_bounded (P := (· ≤ 255)) hhangover' hhangover⟩

/-! ### The unguarded settings (Table 11.1) -/

/-- An element of a vector that was set is the new one, or stands as before. -/
theorem forall_getElem_set {α : Type} {n : Nat} {P : α → Prop} {v : Vector α n} {k : Fin n} {x : α}
    (hv : ∀ i : Fin n, P v[i]) (hx : P x) (i : Fin n) : P (v.set k x)[i] := by
  rw [Fin.getElem_fin, Vector.getElem_set]
  split
  · exact hx
  · exact hv i

theorem GeneralSettings.inRange_iff (g : GeneralSettings) : g.inRange = true ↔
    (∀ k : Fin 32, g.gain[k] ≤ 1023) ∧ (∀ k : Fin 32, (g.track[k]).inRange = true) ∧ g.margin ≤ 32767 ∧
      1 ≤ g.challenge ∧ g.challenge ≤ 15 ∧ -8388608 ≤ g.fill ∧ g.fill ≤ 8388607 := by
  simp [GeneralSettings.inRange, Fin.forall_iff, and_assoc]

variable {g : GeneralSettings}

theorem GeneralSettings.inRange_gain (h : g.inRange = true) (k : Fin 32) {v : Nat} (hv : v ≤ 1023) :
    GeneralSettings.inRange { g with gain := g.gain.set k v } = true := by
  obtain ⟨hgain, hrest⟩ := g.inRange_iff.1 h
  exact (GeneralSettings.inRange_iff _).2 ⟨forall_getElem_set (P := (· ≤ 1023)) hgain hv, hrest⟩

theorem GeneralSettings.inRange_track (h : g.inRange = true) (k : Fin 32) {x : TrackSettings}
    (hx : x.inRange = true) : GeneralSettings.inRange { g with track := g.track.set k x } = true := by
  obtain ⟨hgain, htrack, hrest⟩ := g.inRange_iff.1 h
  exact (GeneralSettings.inRange_iff _).2
    ⟨hgain, forall_getElem_set (P := fun x => TrackSettings.inRange x = true) htrack hx, hrest⟩

theorem GeneralSettings.track_inRange (h : g.inRange = true) (k : Fin 32) : (g.track[k]).inRange = true := by
  obtain ⟨-, htrack, -⟩ := g.inRange_iff.1 h
  exact htrack k

/-- The activity and floor settings in effect once what waits for them is applied (R62). -/
theorem GeneralSettings.inRange_applied {c : PendingChanges} (h : g.inRange = true) (hc : c.inRange) :
    GeneralSettings.inRange { g with
      track := Vector.ofFn fun i => g.track[i].taking c.track[i]
      margin := c.margin.getD g.margin
      challenge := c.challenge.getD g.challenge } = true := by
  obtain ⟨hgain, htrack, hmargin, hleast, hmost, hfill⟩ := g.inRange_iff.1 h
  obtain ⟨-, htrack', hmargin', hchallenge'⟩ := hc
  obtain ⟨hleast', hmost'⟩ := getD_bounded (P := fun v => 1 ≤ v ∧ v ≤ 15) hchallenge' ⟨hleast, hmost⟩
  refine (GeneralSettings.inRange_iff _).2
    ⟨hgain, fun k => ?_, getD_bounded (P := (· ≤ 32767)) hmargin' hmargin, hleast', hmost', hfill⟩
  rw [Fin.getElem_fin, Vector.getElem_ofFn]
  exact TrackSettings.taking_inRange (htrack k) (htrack' k)

/-- Every setting in effect once everything that waits is applied (R196). -/
theorem Settings.applying_inRange {w : Settings} {c : PendingChanges} (h : w.general.inRange = true)
    (hc : c.inRange) : (w.applying c).general.inRange = true := by
  obtain ⟨-, hrest⟩ := (GeneralSettings.inRange_iff _).1 (GeneralSettings.inRange_applied h hc)
  obtain ⟨hgain, -⟩ := w.general.inRange_iff.1 h
  obtain ⟨hgain', -⟩ := hc
  refine (GeneralSettings.inRange_iff _).2 ⟨fun k => ?_, hrest⟩
  rw [Fin.getElem_fin, Settings.applying, Vector.getElem_ofFn]
  exact getD_bounded (P := (· ≤ 1023)) (hgain' k) (hgain k)

/-! ### What waits -/

variable {c : PendingChanges}

theorem PendingChanges.inRange_gain (h : c.inRange) (k : Fin 32) {x : Option Nat}
    (hx : ∀ v, x = some v → v ≤ 1023) : PendingChanges.inRange { c with gain := c.gain.set k x } := by
  obtain ⟨hgain, hrest⟩ := h
  exact ⟨forall_getElem_set (P := fun x : Option Nat => ∀ v, x = some v → v ≤ 1023) hgain hx, hrest⟩

theorem PendingChanges.inRange_track (h : c.inRange) (k : Fin 32) {x : PendingTrack} (hx : x.inRange) :
    PendingChanges.inRange { c with track := c.track.set k x } := by
  obtain ⟨hgain, htrack, hrest⟩ := h
  exact ⟨hgain, forall_getElem_set (P := PendingTrack.inRange) htrack hx, hrest⟩

/-- A clock source that waits has no range to leave (Table 11.1). -/
theorem PendingChanges.inRange_source (h : c.inRange) (x : Option ClockSource) :
    PendingChanges.inRange { c with source := x } := h

/-- Nothing waits for an activity or floor setting once they are applied (R62). -/
theorem PendingChanges.inRange_emptied (h : c.inRange) :
    PendingChanges.inRange { c with track := noChanges.track, margin := none, challenge := none } := by
  obtain ⟨hgain, -⟩ := h
  obtain ⟨-, htrack, hmargin, hchallenge⟩ := noChanges_inRange
  exact ⟨hgain, htrack, hmargin, hchallenge⟩

end Sys2Proof.Machine
end

section
/-! What a command may do to the settings, to what waits for them, and to the guarded part of the Image: the
operations of the blocks, from those that reach none of it to those that do (R62, R188, R192). -/

namespace Sys2Proof.Machine

/-! ### The relation -/

/-- What the two invariants of the Settings Store look at. -/
def State.config (s : State) : Settings × Option Plan × PendingChanges × Image :=
  (s.settings, s.plans.armed, s.changes, s.image)

/-- One state follows another with its settings within their ranges still, and with a guarded part of the Image that
holds FIXED untouched (R188, R192). -/
structure State.Upholds (s t : State) : Prop where
  settings : s.settingsWf → t.settingsWf
  fixed : s.image.isFixed = true → t.image.guarded = s.image.guarded

/-- An Image is FIXED by its guarded part alone. -/
theorem Image.isFixed_congr {x y : Image} (h : y.guarded = x.guarded) : y.isFixed = x.isFixed := by
  rw [Image.isFixed, Image.isFixed, h]

section
variable {s t u : State}

theorem State.settingsWf.congr (h : s.settingsWf) (hs : t.settings = s.settings) (ha : t.plans.armed = s.plans.armed)
    (hc : t.changes = s.changes) : t.settingsWf := by
  unfold State.settingsWf
  rw [hs, ha, hc]
  exact h

theorem State.Upholds.same (h : t.config = s.config) : s.Upholds t := by
  simp only [State.config, Prod.mk.injEq] at h
  obtain ⟨hsettings, harmed, hchanges, himage⟩ := h
  exact ⟨fun hs => hs.congr hsettings harmed hchanges, fun _ => by rw [himage]⟩

theorem State.Upholds.refl (s : State) : s.Upholds s := .same rfl

theorem State.Upholds.trans (h : s.Upholds t) (k : t.Upholds u) : s.Upholds u where
  settings hs := k.settings (h.settings hs)
  fixed hs := (k.fixed ((Image.isFixed_congr (h.fixed hs)).trans hs)).trans (h.fixed hs)

/-- A state that another one's equation describes, with nothing of this reached. -/
theorem State.Upholds.of_eq (h : t = u) (hu : u.config = s.config) : s.Upholds t := h ▸ .same hu

/-- What does not reach the Image. -/
theorem State.Upholds.settled (hi : t.image = s.image) (hw : s.settingsWf → t.settingsWf) : s.Upholds t :=
  ⟨hw, fun _ => by rw [hi]⟩

theorem State.Upholds.ite {c : Prop} [Decidable c] (ht : s.Upholds t) (hu : s.Upholds u) :
    s.Upholds (if c then t else u) := iteInduction (fun _ => ht) fun _ => hu

/-- Both answers of a command. -/
theorem State.Upholds.answered {c : Prop} [Decidable c] {x y : Result × State} (hx : s.Upholds x.2)
    (hy : s.Upholds y.2) : s.Upholds (if c then x else y).2 :=
  iteInduction (motive := fun z : Result × State => s.Upholds z.2) (fun _ => hx) fun _ => hy

/-- Other unguarded settings, the plan among them as it was. -/
theorem State.Upholds.setGeneral {g : GeneralSettings} (hp : g.plan = s.settings.general.plan)
    (hg : s.settings.general.inRange = true → g.inRange = true) : s.Upholds (s.setGeneral g) :=
  .settled rfl fun ⟨hgeneral, hplan, hrest⟩ => ⟨hg hgeneral, (congrArg Plan.fault hp).trans hplan, hrest⟩

/-- Other values that wait. -/
theorem State.Upholds.setChanges {c : PendingChanges} (hc : s.changes.inRange → c.inRange) :
    s.Upholds { s with changes := c } :=
  .settled rfl fun ⟨hgeneral, hplan, harmed, hchanges⟩ => ⟨hgeneral, hplan, harmed, hc hchanges⟩

end

section
variable (s : State)

/-! ### The ring, the Marks and the Readers -/

theorem State.Upholds.evaluate (p : Port) : s.Upholds (s.evaluate p) := by
  obtain ⟨_, _, h⟩ := s.evaluate_keeps p
  exact .of_eq h rfl

theorem State.Upholds.drainGap : s.Upholds s.drainGap := by
  obtain ⟨_, _, _, h⟩ := s.drainGap_keeps
  exact .of_eq h rfl

theorem State.Upholds.drainLost : s.Upholds s.drainLost := by
  obtain ⟨_, _, _, h⟩ := s.drainLost_keeps
  exact .of_eq h rfl

theorem State.Upholds.requestMark (q : MarkRequest) : s.Upholds (s.requestMark q) := by
  obtain ⟨_, _, _, h⟩ := s.requestMark_keeps q
  exact .of_eq h rfl

theorem State.Upholds.raiseBoth (e : Event) : s.Upholds (s.raiseBoth e) := .same rfl

theorem State.Upholds.rise (p : Port) (more : Nat) : s.Upholds (s.rise p more) := by
  obtain ⟨⟨_, _, _, _, h⟩, _⟩ := s.rise_keeps p more
  exact .of_eq h rfl

/-! ### The links, the clock and the Bench Lines -/

theorem State.Upholds.receiveLink (n : Fin 8) (x : LinkInput) : s.Upholds (s.receiveLink n x) := by
  obtain ⟨_, _, _, h⟩ := s.receiveLink_keeps n x
  exact .of_eq h rfl

theorem State.Upholds.receiveTransition (n : Fin 8) (x : LinkInput) (before after : LinkState) :
    s.Upholds (s.receiveTransition n x before after) := .ite (.receiveLink s n x) (.refl s)

/-- A link's enable setting has no range to leave (Table 11.1). -/
theorem State.Upholds.enableLink (n : Fin 8) (on : Bool) : s.Upholds (s.enableLink n on) := by
  obtain ⟨_, _, _, _, h⟩ := s.enableLink_keeps n on
  rw [h]
  exact .settled rfl id

theorem State.Upholds.loseHouse : s.Upholds s.loseHouse := by
  obtain ⟨_, _, _, h⟩ := s.loseHouse_keeps
  exact .of_eq h rfl

theorem State.Upholds.houseReturns : s.Upholds s.houseReturns := by
  obtain ⟨_, h⟩ := s.setClockState_keeps .house
  exact .of_eq h rfl

/-- A clock source has no range to leave either (Table 11.1). -/
theorem State.Upholds.applySource (x : ClockSource) : s.Upholds (s.applySource x) := by
  obtain ⟨_, h⟩ := s.applySource_keeps x
  rw [h]
  exact .settled rfl id

theorem State.Upholds.request (wanted : ProceedingsState) (who : Party) : s.Upholds (s.request wanted who).2 := by
  obtain ⟨_, _, _, _, h | ⟨_, h⟩⟩ := s.request_keeps wanted who <;> exact .of_eq h rfl

theorem State.Upholds.acceptLine (l : Line) : s.Upholds (s.acceptLine l) := by
  obtain ⟨_, _, _, _, h, _⟩ := s.acceptLine_keeps l
  exact .of_eq h rfl

/-! ### What a Block Boundary puts into effect (R37, R54, R62) -/

theorem State.Upholds.endPeriod : s.Upholds s.endPeriod := by
  obtain ⟨_, _, _, _, _, _, _, h, _⟩ := s.endPeriod_keeps
  exact .of_eq h rfl

theorem State.Upholds.startPeriod (edge : Bool) (levels : BenchLevels) : s.Upholds (s.startPeriod edge levels) := by
  obtain ⟨_, _, _, h, _⟩ := s.startPeriod_keeps edge levels
  exact .of_eq h rfl

theorem State.Upholds.turn (floorAfter : Nat) : s.Upholds (s.turn floorAfter) := by
  obtain ⟨_, _, _, _, _, _, _, _, _, _, _, h, _⟩ := s.turn_keeps floorAfter
  exact .of_eq h rfl

theorem State.Upholds.closeNow : s.Upholds s.closeNow := by
  obtain ⟨_, _, _, h⟩ := s.closeNow_keeps
  exact .of_eq h rfl

theorem State.Upholds.takeTarget : s.Upholds s.takeTarget := by
  obtain ⟨_, _, _, _, _, h⟩ := s.takeTarget_keeps
  exact .of_eq h rfl

theorem State.Upholds.takeReturn : s.Upholds s.takeReturn := by
  obtain ⟨_, _, _, _, h⟩ := s.takeReturn_keeps
  exact .of_eq h rfl

theorem State.Upholds.flushFloor : s.Upholds s.flushFloor := by
  obtain ⟨_, _, _, _, h⟩ := s.flushFloor_keeps
  exact .of_eq h rfl

theorem State.Upholds.boundaryMark (q : MarkRequest) : s.Upholds (s.boundaryMark q) := by
  obtain ⟨_, _, _, _, h⟩ := s.boundaryMark_keeps q
  exact .of_eq h rfl

theorem State.Upholds.applySettings : s.Upholds s.applySettings := by
  unfold State.applySettings
  refine .settled rfl fun ⟨hgeneral, hplan, harmed, hchanges⟩ => ⟨?_, hplan, harmed, ?_⟩
  · exact GeneralSettings.inRange_applied hgeneral hchanges
  · exact PendingChanges.inRange_emptied hchanges

theorem State.Upholds.beginBoundary : s.Upholds s.beginBoundary := by
  have happlied := (State.Upholds.endPeriod s).trans (.applySettings _)
  unfold State.beginBoundary
  generalize s.endPeriod.applySettings = u at happlied
  exact happlied.trans (.same rfl)

/-- A plan that passes validation becomes the Active Plan (R36, R38). -/
theorem State.Upholds.activate {plan : Plan} (h : s.settingsWf → plan.fault = none) : s.Upholds (s.activate plan) :=
  .settled rfl fun hs =>
    have ⟨hgeneral, _, _, hchanges⟩ := hs
    ⟨hgeneral, h hs, nofun, hchanges⟩

theorem State.Upholds.takeArmed : s.Upholds s.takeArmed := by
  unfold State.takeArmed
  split
  · exact .refl s
  · rename_i plan hplan
    exact (State.Upholds.activate s fun ⟨_, _, harmed, _⟩ => harmed plan hplan).trans (.boundaryMark _ _)

theorem State.Upholds.takeGain (k : Fin 32) : s.Upholds (s.takeGain k) := by
  cases hk : s.changes.gain[k] with
  | none =>
    rw [s.takeGain_none k hk]
    exact .refl s
  | some v =>
    have hset : s.Upholds (s.withGain k v) := .settled rfl fun ⟨hgeneral, hplan, harmed, hchanges⟩ =>
      have ⟨hgain, _⟩ := hchanges
      ⟨GeneralSettings.inRange_gain hgeneral k (hgain k v hk), hplan, harmed,
        PendingChanges.inRange_gain hchanges k nofun⟩
    rw [s.takeGain_some k hk]
    exact hset.trans (.boundaryMark _ _)

theorem State.Upholds.takeGains (order : List (Fin 32)) : s.Upholds (s.takeGains order) :=
  List.foldlRecOn _ State.takeGain (.refl s) fun u hu k _ => hu.trans (.takeGain u k)

theorem State.Upholds.takeSource : s.Upholds s.takeSource := by
  unfold State.takeSource
  split
  · exact .refl s
  · have htaken : s.Upholds { s with changes := { s.changes with source := none } } := .setChanges id
    obtain ⟨_, _, _, _, hmark⟩ := State.markSource_keeps
      (State.applySource { s with changes := { s.changes with source := none } } _) s.sourceInUse
    exact (htaken.trans (.applySource _ _)).trans (.of_eq hmark rfl)

theorem State.Upholds.ifDue (due : State → Bool) {act : State → State} (hact : ∀ u : State, u.Upholds (act u)) :
    s.Upholds (s.ifDue due act) := .ite (hact s) (.refl s)

theorem State.Upholds.finishTurned : s.Upholds s.finishTurned := by
  have hclose := State.Upholds.ifDue s State.closeDue .closeNow
  have htarget := hclose.trans (.ifDue _ State.targetDue .takeTarget)
  have hplan := htarget.trans (.ifDue _ State.planDue .takeArmed)
  have hgain := hplan.trans (.ifDue _ State.gainDue fun u => .takeGains u [])
  have hsource := hgain.trans (.ifDue _ State.sourceDue .takeSource)
  have hreturn := hsource.trans (.ifDue _ State.boundaryReturnDue .takeReturn)
  exact (hreturn.trans (.flushFloor _)).trans (.same rfl)

theorem State.Upholds.finishBoundary : s.Upholds s.finishBoundary := by
  unfold State.finishBoundary
  split
  · exact .refl s
  · exact (State.Upholds.turn s 0).trans (.finishTurned _)
  · exact .finishTurned s

theorem State.Upholds.reachTurned (floorAfter : Nat) : s.Upholds (s.reachTurned floorAfter) := by
  have hbegun : s.Upholds s.reachBegun := .ite (.beginBoundary s) (.refl s)
  unfold State.reachTurned
  dsimp only
  split
  · exact hbegun.trans (.turn _ floorAfter)
  · exact hbegun
  · exact hbegun

theorem State.Upholds.atBoundary (due : State → Bool) {act : State → State} (hact : ∀ u : State, u.Upholds (act u)) :
    s.Upholds (s.atBoundary due act) := .ite ((State.Upholds.reachTurned s 0).trans (hact _)) (.refl s)

theorem State.Upholds.samplePeriod (edge : Bool) (levels : BenchLevels) : s.Upholds (s.samplePeriod edge levels) := by
  have hended : s.Upholds (if s.boundaryDue then s.beginBoundary else if s.inPeriod then s.endPeriod else s) :=
    .ite (.beginBoundary s) (.ite (.endPeriod s) (.refl s))
  exact (hended.trans (.finishBoundary _)).trans (.startPeriod _ edge levels)

end

end Sys2Proof.Machine
end

section
/-! The settings stay within their ranges, and a guarded part of the Image that holds FIXED untouched, through every
command (R188, R190, R192, R194). -/

namespace Sys2Proof.Machine

section
variable (s : State)

/-! ### The commands of the ports that reach no setting -/

theorem State.Upholds.readerEvaluated (p : Port) (x : Reader) : s.Upholds ((s.setReader p x).evaluate p) :=
  (State.Upholds.same (s := s) (t := s.setReader p x) rfl).trans (.evaluate _ p)

theorem State.Upholds.attach (p : Port) (position : Byte) : s.Upholds (s.attach p position).2 :=
  .answered (.refl s) (.answered (.refl s) (.answered (.refl s) (.readerEvaluated s p _)))

theorem State.Upholds.recounted {t : State} (h : t.config = s.config) : s.Upholds t.drainGap.drainLost :=
  ((State.Upholds.same h).trans (.drainGap t)).trans (.drainLost _)

theorem State.Upholds.detach (p : Port) : s.Upholds (s.detach p).2 := .answered (.recounted s rfl) (.refl s)

theorem State.Upholds.release (p : Port) (seq : Nat) : s.Upholds (s.release p seq).2 :=
  .answered (.refl s) (.answered (.refl s) ((State.Upholds.readerEvaluated s p _).trans (.drainGap _)))

theorem State.Upholds.seek (p : Port) (seq : Nat) : s.Upholds (s.seek p seq).2 :=
  .answered (.refl s) (.answered (.refl s) (.answered (.refl s) (.readerEvaluated s p _)))

theorem State.Upholds.placeHold (p : Port) (first last : Nat) : s.Upholds (s.placeHold p first last).2 := by
  refine .answered (.refl s) (.answered (.refl s) ?_)
  split
  · exact .refl s
  · exact .same rfl

theorem State.Upholds.dropHold (p : Port) (entry : Nat) : s.Upholds (s.dropHold p entry).2 := by
  have hdropped : ∀ holds, s.Upholds { s with ring := s.ring.withHolds holds } := fun _ => .same rfl
  unfold State.dropHold
  split
  · split
    · exact .refl s
    · exact .answered ((hdropped _).trans (.drainGap _)) (.refl s)
  · exact .refl s

theorem State.Upholds.addNote (p : Port) (option : Byte) (time arg tag : Nat) :
    s.Upholds (s.addNote p option time arg tag).2 :=
  .answered (.refl s) (.answered (.refl s) (.requestMark s _))

theorem State.Upholds.requestClose (p : Port) : s.Upholds (s.requestClose p).2 :=
  .answered (.refl s) (.answered (.refl s) (.same rfl))

theorem State.Upholds.setState (p : Port) (code : Byte) : s.Upholds (s.setState p code).2 := by
  unfold State.setState
  split
  · exact .refl s
  · exact .request s _ _

theorem State.Upholds.planSetGroup (p : Port) (entry first count : Nat) (code : Byte) :
    s.Upholds (s.planSetGroup p entry first count code).2 := by
  unfold State.planSetGroup
  split
  · split
    · exact .refl s
    · exact .same rfl
  · exact .refl s

theorem State.Upholds.planSetFormat (p : Port) (width total : Nat) : s.Upholds (s.planSetFormat p width total).2 :=
  .answered (.same rfl) (.answered (.same rfl) (.refl s))

/-! ### The commands that change a setting, a plan or what waits -/

/-- An opened Session empties what waits, but for a clock source (R83). -/
theorem State.Upholds.openSession (p : Port) (flag : Byte) : s.Upholds (s.openSession p flag).2 := by
  have hcleared : ∀ verify, s.Upholds (s.cleared verify) := fun verify =>
    .settled rfl fun ⟨hgeneral, hplan, harmed, _⟩ =>
      ⟨hgeneral, hplan, harmed, PendingChanges.inRange_source noChanges_inRange _⟩
  have hopened : ∀ verify, s.Upholds (s.opened p verify) := fun verify =>
    ((hcleared verify).trans (.requestMark _ _)).trans (.raiseBoth _ .state)
  exact .answered (.refl s) (.answered (.refl s) (.answered (.refl s) (hopened _)))

/-- Only a plan that passes validation is armed, or becomes the Active Plan (R34 to R37). -/
theorem State.Upholds.activatePlan (expected : BitVec 16) : s.Upholds (s.activatePlan expected).2 := by
  refine .answered (.refl s) ?_
  split
  · exact .refl s
  · rename_i hvalid
    refine .answered (.refl s) (.answered (.settled rfl ?_) (.activate s fun _ => hvalid))
    exact fun ⟨hgeneral, hplan, _, hchanges⟩ =>
      ⟨hgeneral, hplan, fun plan h => Option.some.inj h ▸ hvalid, hchanges⟩

/-- A Gain Code above 1023 is written as 1023 (R53). -/
theorem State.Upholds.setGain (track gain : Nat) : s.Upholds (s.setGain track gain).2 := by
  have hlimit : min gain 1023 ≤ 1023 := Nat.min_le_right _ _
  unfold State.setGain
  split
  · exact .refl s
  · rename_i k _
    refine .ite (.setChanges fun h => ?_) (.setGeneral rfl fun h => GeneralSettings.inRange_gain h k hlimit)
    exact PendingChanges.inRange_gain h k fun v hv => Option.some.inj hv ▸ hlimit

theorem within_eq_some {low high n v : Nat} : within low high n = some v ↔ (low ≤ n ∧ n ≤ high) ∧ n = v := by
  simp [within]

theorem fillOf_eq_some {n : Nat} {v : Int} :
    fillOf n = some v ↔ (-8388608 ≤ signed32 n ∧ signed32 n ≤ 8388607) ∧ signed32 n = v := by
  simp [fillOf]

/-- A written activity setting of a Track number within Table 4.1, in effect or pending (R62). -/
theorem State.Upholds.trackWritten (k : Fin 32) {f : TrackSettings → TrackSettings}
    {q : PendingTrack → PendingTrack} (hf : ∀ x : TrackSettings, x.inRange = true → (f x).inRange = true)
    (hq : ∀ x : PendingTrack, x.inRange → (q x).inRange) :
    s.Upholds (s.updateTrack k f) ∧ s.Upholds (s.updatePending k q) :=
  ⟨.setGeneral rfl fun h => GeneralSettings.inRange_track h k (hf _ (GeneralSettings.track_inRange h k)),
    .setChanges fun h => have ⟨_, htrack, _⟩ := h; PendingChanges.inRange_track h k (hq _ (htrack k))⟩

end

section
variable {s t : State}

/-- A written setting lies within its range, in effect or waiting (R62, R188, R190). -/
theorem State.Upholds.written {x : SettingName} {v : Nat} (ht : s.written x v = some t) : s.Upholds t := by
  cases x with
  | bench => exact nomatch ht
  | threshold k =>
    obtain ⟨w, hw, rfl⟩ := Option.map_eq_some_iff.1 ht
    obtain ⟨⟨-, hmost⟩, rfl⟩ := within_eq_some.1 hw
    obtain ⟨heffect, hpending⟩ := State.Upholds.trackWritten s k
      (f := fun y => { y with threshold := v }) (q := fun y => { y with threshold := some v })
      (fun y hy => have ⟨_, hrest⟩ := y.inRange_iff.1 hy; (TrackSettings.inRange_iff _).2 ⟨hmost, hrest⟩)
      fun y ⟨_, hrest⟩ => ⟨fun u hu => Option.some.inj hu ▸ hmost, hrest⟩
    exact .ite hpending heffect
  | attack k =>
    obtain ⟨w, hw, rfl⟩ := Option.map_eq_some_iff.1 ht
    obtain ⟨⟨hleast, hmost⟩, rfl⟩ := within_eq_some.1 hw
    obtain ⟨heffect, hpending⟩ := State.Upholds.trackWritten s k
      (f := fun y => { y with attack := v }) (q := fun y => { y with attack := some v })
      (fun y hy => have ⟨hthreshold, _, _, hhangover⟩ := y.inRange_iff.1 hy
        (TrackSettings.inRange_iff _).2 ⟨hthreshold, hleast, hmost, hhangover⟩)
      fun y ⟨hthreshold, _, hhangover⟩ =>
        ⟨hthreshold, fun u hu => Option.some.inj hu ▸ ⟨hleast, hmost⟩, hhangover⟩
    exact .ite hpending heffect
  | hangover k =>
    obtain ⟨w, hw, rfl⟩ := Option.map_eq_some_iff.1 ht
    obtain ⟨⟨-, hmost⟩, rfl⟩ := within_eq_some.1 hw
    obtain ⟨heffect, hpending⟩ := State.Upholds.trackWritten s k
      (f := fun y => { y with hangover := v }) (q := fun y => { y with hangover := some v })
      (fun y hy => have ⟨hthreshold, hleast, hattack, _⟩ := y.inRange_iff.1 hy
        (TrackSettings.inRange_iff _).2 ⟨hthreshold, hleast, hattack, hmost⟩)
      fun y ⟨hthreshold, hattack, _⟩ => ⟨hthreshold, hattack, fun u hu => Option.some.inj hu ▸ hmost⟩
    exact .ite hpending (heffect.trans (.same rfl))
  | eligible k =>
    obtain ⟨w, -, rfl⟩ := Option.map_eq_some_iff.1 ht
    obtain ⟨heffect, hpending⟩ := State.Upholds.trackWritten s k
      (f := fun y => { y with eligible := w }) (q := fun y => { y with eligible := some w })
      (fun _ hy => hy) fun _ hy => hy
    exact .ite hpending (.ite (heffect.trans (.same rfl)) heffect)
  | margin =>
    obtain ⟨w, hw, rfl⟩ := Option.map_eq_some_iff.1 ht
    obtain ⟨⟨-, hmost⟩, rfl⟩ := within_eq_some.1 hw
    refine .ite (.setChanges fun ⟨hgain, htrack, _, hchallenge⟩ =>
      ⟨hgain, htrack, fun u hu => Option.some.inj hu ▸ hmost, hchallenge⟩) (.setGeneral rfl fun h => ?_)
    obtain ⟨hgain, htrack, -, hrest⟩ := (GeneralSettings.inRange_iff _).1 h
    exact (GeneralSettings.inRange_iff _).2 ⟨hgain, htrack, hmost, hrest⟩
  | challenge =>
    obtain ⟨w, hw, rfl⟩ := Option.map_eq_some_iff.1 ht
    obtain ⟨⟨hleast, hmost⟩, rfl⟩ := within_eq_some.1 hw
    refine .ite (.setChanges fun ⟨hgain, htrack, hmargin, _⟩ =>
      ⟨hgain, htrack, hmargin, fun u hu => Option.some.inj hu ▸ ⟨hleast, hmost⟩⟩) (.setGeneral rfl fun h => ?_)
    obtain ⟨hgain, htrack, hmargin, -, -, hfill⟩ := (GeneralSettings.inRange_iff _).1 h
    exact (GeneralSettings.inRange_iff _).2 ⟨hgain, htrack, hmargin, hleast, hmost, hfill⟩
  | fill =>
    obtain ⟨w, hw, rfl⟩ := Option.map_eq_some_iff.1 ht
    obtain ⟨hrange, rfl⟩ := fillOf_eq_some.1 hw
    refine .setGeneral rfl fun h => ?_
    obtain ⟨hgain, htrack, hmargin, hleast, hmost, -⟩ := (GeneralSettings.inRange_iff _).1 h
    exact (GeneralSettings.inRange_iff _).2 ⟨hgain, htrack, hmargin, hleast, hmost, hrange⟩
  | source =>
    obtain ⟨w, -, rfl⟩ := Option.map_eq_some_iff.1 ht
    have htaken : s.Upholds { s with changes := { s.changes with source := none } } := .setChanges id
    exact .ite (.setChanges id) (htaken.trans (.applySource _ w))
  | linkEnable n =>
    obtain ⟨w, -, rfl⟩ := Option.map_eq_some_iff.1 ht
    exact .enableLink s n w
  | latency | lanes =>
    obtain ⟨w, -, rfl⟩ := Option.map_eq_some_iff.1 ht
    exact .setGeneral rfl id
  | retention | access | guard =>
    obtain ⟨w, -, rfl⟩ := Option.map_eq_some_iff.1 ht
    exact .settled rfl id

theorem State.Upholds.writeSetting (id value : Nat) : s.Upholds (s.writeSetting id value).2 := by
  unfold State.writeSetting
  split
  · exact .refl s
  · split
    · exact .refl s
    · exact .answered (.refl s) (.written ‹_›)

end

/-! ### Power, RESET and the store -/

/-- What the start-up load gives is within range: it was checked, or is the factory default (R195). -/
theorem Image.loaded_inRange (x : Image) :
    x.loaded.general.inRange = true ∧ x.loaded.general.plan.fault = none := by
  obtain ⟨-, ⟨hgeneral, hplan, -⟩, -⟩ := invariantsAtReset
  unfold Image.loaded
  cases hloads : x.generalLoads with
  | false => exact ⟨hgeneral, hplan⟩
  | true =>
    simp only [Image.generalLoads, Bool.and_eq_true, decide_eq_true_eq] at hloads
    obtain ⟨⟨-, hfault⟩, hrange⟩ := hloads
    exact ⟨hrange, hfault⟩

/-- Neither a store nor a power loss during one writes a guarded part that holds FIXED (R192, R194). -/
theorem Image.afterStore_fixed {x : Image} (h : x.isFixed = true) (job : StoreJob) :
    (x.afterStore job).guarded = x.guarded := by
  rw [Image.afterStore, if_pos h]
  rfl

theorem State.imageLeft_fixed {s : State} (h : s.image.isFixed = true) (writing : ImageHalf) :
    (s.imageLeft writing).guarded = s.image.guarded := by
  unfold State.imageLeft
  split
  · rfl
  · rw [Image.afterLoss_broken _ _ _ (.inr h)]

/-- A Plan Unit that starts has no Armed Plan (Table 2.7). -/
theorem startPlans_armed (active plan : Plan) (h : (startPlans active).armed = some plan) : plan.fault = none :=
  nomatch h

section
variable (s : State)

theorem State.Upholds.powered {t : State} (writing : ImageHalf)
    (h : t.config = (State.powered (s.imageLeft writing)).config) : s.Upholds t := by
  obtain ⟨-, hreset, -⟩ := invariantsAtReset
  have hpowered : s.Upholds (State.powered (s.imageLeft writing)) :=
    ⟨fun _ => hreset.congr rfl rfl rfl, fun hs => State.imageLeft_fixed hs writing⟩
  exact hpowered.trans (.same h)

theorem State.Upholds.completeLoad : s.Upholds s.completeLoad := by
  obtain ⟨hgeneral, hplan⟩ := s.image.loaded_inRange
  unfold State.completeLoad
  dsimp only
  refine .ite (.settled rfl fun ⟨_, _, _, hchanges⟩ => ?_) (.settled rfl fun ⟨_, _, _, hchanges⟩ => ?_)
  · exact ⟨hgeneral, hplan, startPlans_armed _, hchanges⟩
  · exact ⟨hgeneral, hplan, startPlans_armed _, hchanges⟩

theorem State.Upholds.underReset : s.Upholds s.underReset := by
  obtain ⟨-, hkept, -⟩ := s.settings.applying_keeps s.changes
  exact .settled rfl fun ⟨hgeneral, hplan, _, hchanges⟩ =>
    ⟨Settings.applying_inRange hgeneral hchanges, (congrArg Plan.fault hkept).trans hplan, startPlans_armed _,
      noChanges_inRange⟩

theorem State.Upholds.assertReset : s.Upholds s.assertReset := by
  unfold State.assertReset
  split
  · exact .same rfl
  · exact .underReset s
  · exact (State.Upholds.finishBoundary s).trans (.underReset _)

theorem State.Upholds.completeStore : s.Upholds s.completeStore := by
  unfold State.completeStore
  split
  · exact .refl s
  · rename_i job _
    have hfixed := fun h : s.image.isFixed = true => Image.afterStore_fixed h job
    exact .ite ⟨id, hfixed⟩ ⟨id, hfixed⟩

/-! ### Every command -/

theorem State.frameStable_upholds : FrameStable s.Upholds where
  ports _ _ h := h.trans (.same rfl)
  finish t h := h.trans (.finishBoundary t)
  rise t p more h := h.trans (.rise t p more)

theorem exec_samplePeriod_upholds (edge : Bool) (levels : BenchLevels) :
    ∃ t, exec (.samplePeriod edge levels) s = .next t ∧ s.Upholds t := by
  cases hp : s.power with
  | off | loading => exact ⟨s, by simp [exec, execSamplePeriod, hp], .refl s⟩
  | running =>
    cases hr : s.resetLine with
    | false => exact ⟨_, exec_samplePeriod edge levels s hp hr, .samplePeriod s edge levels⟩
    | true =>
      exact ⟨{ s with frameSyncs := s.frameSyncs + 1 }, by simp [exec, execSamplePeriod, hp, hr], .same rfl⟩

/-- Every command upholds the ranges of the settings, and a guarded part of the Image that holds FIXED. -/
theorem exec_upholds (i : Instr) : ∃ t, exec i s = .next t ∧ s.Upholds t := by
  have hframe := s.frameStable_upholds
  have hwrite := fun (p : Port) (f : Frame) (n : Nat) (act : State → List Byte → Result × State)
    (hact : ∀ t bs, t.Upholds (act t bs).2) =>
      hframe.writeFrame s p f n (fun t bs ht => ht.trans (hact t bs)) (.refl s)
  have hread := fun (p : Port) (f : Frame) (n : Nat) refusal data =>
    hframe.readFrame s p f n refusal data (.refl s)
  have htransfer := fun (p : Port) (f : Frame) refusal fixed =>
    hframe.transferFrame s p f refusal fixed (fun t _ ht => ht.trans (.same rfl)) (.refl s)
  have hbare := fun (p : Port) (w : LaneWidth) (edges : Nat) (reset : AtReset) (r : Result) =>
    hframe.takeFrame s p w edges reset (fun t ht => hframe.answer t p w edges r ht) (.refl s)
  have hexamined : s.Upholds s.examineHouse := .same rfl
  cases i with
  | powerOn => exact ⟨_, rfl, .powered s .general rfl⟩
  | powerLoss writing => exact ⟨_, rfl, .powered s writing rfl⟩
  | settingsLoadComplete => exact ⟨_, rfl, .ite (.completeLoad s) (.refl s)⟩
  | resetAssert => exact ⟨_, rfl, .ite (.refl s) (.assertReset s)⟩
  | resetRelease => exact ⟨_, rfl, .ite (.same rfl) (.refl s)⟩
  | samplePeriod edge levels => exact exec_samplePeriod_upholds s edge levels
  | linkFrame n x => exact ⟨_, rfl, .ite (.receiveLink s n x) (.refl s)⟩
  | linkLock n x | linkSeekTimeout n x | linkRelock n x | linkDown n x =>
    exact ⟨_, rfl, .receiveTransition s n x _ _⟩
  | houseClockLoss => exact ⟨_, rfl, .ite (hexamined.trans (.loseHouse _)) (.refl s)⟩
  | houseClockReturn =>
    exact ⟨_, rfl, .ite (hexamined.trans (.houseReturns _)) (.atBoundary s _ .takeReturn)⟩
  | benchLineAccept l => exact ⟨_, rfl, .ite (.acceptLine s l) (.refl s)⟩
  | blockBoundary k => exact ⟨_, rfl, .ite (.reachTurned s k) (.refl s)⟩
  | storeGapBlock => exact ⟨_, rfl, .ite ((State.Upholds.finishBoundary s).trans (.drainGap _)) (.refl s)⟩
  | marksLostStore => exact ⟨_, rfl, .ite ((State.Upholds.finishBoundary s).trans (.drainLost _)) (.refl s)⟩
  | pendingTargetTake => exact ⟨_, rfl, .atBoundary s _ .takeTarget⟩
  | sessionClose | sessionLengthLimit => exact ⟨_, rfl, .atBoundary s _ .closeNow⟩
  | planActivate => exact ⟨_, rfl, .atBoundary s _ .takeArmed⟩
  | pendingGainApply order => exact ⟨_, rfl, .atBoundary s _ fun u => .takeGains u order⟩
  | pendingSettingApply => exact ⟨_, rfl, .ite (.beginBoundary s) (.refl s)⟩
  | clockSourceApply => exact ⟨_, rfl, .atBoundary s _ .takeSource⟩
  | storeCompletion => exact ⟨_, rfl, .completeStore s⟩
  | zeroByteFrame => exact ⟨_, rfl, .refl s⟩
  | frameDuringLoad p f => exact ⟨_, rfl, .ite (.refl s) (hbare p _ f.edges f.reset .busy)⟩
  | shortFrame p f => exact ⟨_, rfl, .ite (hbare p .one f.edges f.reset .badFrame) (.refl s)⟩
  | unknownCommand p code f =>
    exact ⟨_, rfl, .ite (hframe.takeCommand s p f (fun t ht => ht.trans (.same rfl)) (.refl s)) (.refl s)⟩
  | status p f | readEvents p f | readHolds p f | readPlan p f | readTracks p f | readLinks p f | readSetting p f =>
    exact ⟨_, rfl, hread p f _ _ _⟩
  | readBlock p f | readMarks p f => exact ⟨_, rfl, htransfer p f _ _⟩
  | readBlockEnd p edges | readMarksEnd p edges => exact ⟨_, rfl, hframe.riseOf s p _ edges (.refl s)⟩
  | ackEvents p f | setMask p f | planClear p f | enableStore p f =>
    exact ⟨_, rfl, hwrite p f _ _ fun _ _ => .same rfl⟩
  | portReset p f => exact ⟨_, rfl, hwrite p f _ _ fun t _ => .recounted t rfl⟩
  | attach p f => exact ⟨_, rfl, hwrite p f _ _ fun t _ => .attach t p _⟩
  | detach p f => exact ⟨_, rfl, hwrite p f _ _ fun t _ => .detach t p⟩
  | release p f => exact ⟨_, rfl, hwrite p f _ _ fun t _ => .release t p _⟩
  | seek p f => exact ⟨_, rfl, hwrite p f _ _ fun t _ => .seek t p _⟩
  | setAvailLevel p f | setLagLevel p f => exact ⟨_, rfl, hwrite p f _ _ fun t _ => .readerEvaluated t p _⟩
  | placeHold p f => exact ⟨_, rfl, hwrite p f _ _ fun t _ => .placeHold t p _ _⟩
  | dropHold p f => exact ⟨_, rfl, hwrite p f _ _ fun t _ => .dropHold t p _⟩
  | addNote p f => exact ⟨_, rfl, hwrite p f _ _ fun t _ => .addNote t p _ _ _ _⟩
  | openSession p f => exact ⟨_, rfl, hwrite p f _ _ fun t _ => .openSession t p _⟩
  | closeSession p f => exact ⟨_, rfl, hwrite p f _ _ fun t _ => .requestClose t p⟩
  | setState p f => exact ⟨_, rfl, hwrite p f _ _ fun t _ => .setState t p _⟩
  | planSetGroup p f => exact ⟨_, rfl, hwrite p f _ _ fun t _ => .planSetGroup t p _ _ _ _⟩
  | planSetFormat p f => exact ⟨_, rfl, hwrite p f _ _ fun t _ => .planSetFormat t p _ _⟩
  | activatePlan p f => exact ⟨_, rfl, hwrite p f _ _ fun t _ => .activatePlan t _⟩
  | setGain p f => exact ⟨_, rfl, hwrite p f _ _ fun t _ => .setGain t _ _⟩
  | writeSetting p f => exact ⟨_, rfl, hwrite p f _ _ fun _ _ => .writeSetting _ _⟩
  | disableStore p f => exact ⟨_, rfl, hwrite p f _ _ fun t _ => .answered (.refl t) (.same rfl)⟩
  | storeSettings p f =>
    exact ⟨_, rfl, hwrite p f _ _ fun t _ => .answered (.refl t) (.answered (.refl t) (.same rfl))⟩

end

/-- Settles O31: `exec_upholds`; what writes the Image looks at FIXED first (`Image.afterStore_fixed`,
`State.imageLeft_fixed`). -/
theorem fixedForEver : Obligations.FixedForEver := by
  unfold Obligations.FixedForEver
  intro c s t hcheck hmode hexec
  obtain ⟨u, hu, hupholds⟩ := exec_upholds s c
  rw [hu] at hexec
  cases hexec
  exact hupholds.fixed (s.image.isFixed_iff.2 ⟨hcheck, hmode⟩)

/-- Settles O58: the front command by `exec_upholds`; what is written, loaded or armed was checked, and what waits was
checked when it was written. -/
theorem settingsKept : Obligations.SettingsKept := by
  unfold Obligations.SettingsKept
  intro s t h hstep
  unfold step at hstep
  split at hstep
  · cases hstep
    exact h
  · rename_i i rest _
    obtain ⟨u, hu, hupholds⟩ := exec_upholds { s with pending := rest } i
    rw [hu] at hstep
    cases hstep
    exact hupholds.settings (h.congr rfl rfl rfl)

end Sys2Proof.Machine
end

section
/-! The store commands, the completion of a store, and the start-up load (R192 to R195). -/

namespace Sys2Proof.Machine

/-! ### The Store Latch and the beginning of a store (R192, R193) -/

theorem exec_enableStore (p : Port) (f : Frame) (s : State) :
    exec (.enableStore p f) s = .next (s.writeFrame p f 0 fun t _ => (.ok, t.setLatch p true)) := rfl

theorem exec_disableStore (p : Port) (f : Frame) (s : State) :
    exec (.disableStore p f) s = .next (s.writeFrame p f 0 fun t _ => t.disableStore p) := rfl

theorem exec_storeSettings (p : Port) (f : Frame) (s : State) :
    exec (.storeSettings p f) s = .next (s.writeFrame p f 0 fun t _ => t.storeSettings p) := rfl

section
variable (s : State) (p : Port)

theorem State.disableStore_busy (h : s.store ≠ none) : s.disableStore p = (.busy, s) :=
  if_pos (Option.isSome_iff_ne_none.2 h)

theorem State.disableStore_idle (h : s.store = none) : s.disableStore p = (.ok, s.setLatch p false) :=
  if_neg (by rw [h]; nofun)

theorem State.storeSettings_unlatched (h : (s.ports.get p).latch = false) : s.storeSettings p = (.noEnable, s) :=
  if_pos h

theorem State.storeSettings_busy (hl : (s.ports.get p).latch = true) (h : s.store ≠ none) :
    s.storeSettings p = (.busy, s) :=
  (if_neg (by rw [hl]; nofun)).trans (if_pos (Option.isSome_iff_ne_none.2 h))

/-- A store keeps SESSION_LOCK as KEYED (R192). -/
theorem GuardedSettings.stored_eq (g : GuardedSettings) :
    g.stored = { g with mode := if g.mode = .sessionLock then .keyed else g.mode } := by
  obtain ⟨retention, access, mode⟩ := g
  cases mode <;> rfl

theorem State.storeSettings_begins (hl : (s.ports.get p).latch = true) (h : s.store = none) :
    s.storeSettings p = (.ok, { s with store := some ⟨p, s.settings.general, { s.settings.guarded with mode :=
      if s.settings.guarded.mode = .sessionLock then .keyed else s.settings.guarded.mode }, true⟩ }) := by
  rw [← GuardedSettings.stored_eq]
  exact (if_neg (by rw [hl]; nofun)).trans (if_neg (by rw [h]; nofun))

/-- What is left of a write Frame without parameter bytes that sets or clears its port's latch (R169, R193). -/
theorem State.setLatch_answered (f : Frame) (b : Bool) (h : f.edges = 0) :
    ((s.shifted p f).setLatch p b).setResult p .ok =
      { s with ports := s.ports.set p ⟨.ok, b, s.resultOut p, [], none⟩ } := by
  rw [s.shifted_bare p f h]
  cases p <;> rfl

/-- Shifting out leaves the Store Latch (R193). -/
theorem State.shifted_latch (f : Frame) : ((s.shifted p f).ports.get p).latch = (s.ports.get p).latch := by
  cases p <;> rfl

end

/-! ### The completion of a store (R192, R193, R194) -/

theorem exec_storeCompletion (s : State) : exec .storeCompletion s = .next s.completeStore := rfl

theorem Image.afterStore_general (x : Image) (job : StoreJob) :
    (x.afterStore job).general = ⟨true, true, job.general⟩ := by
  unfold Image.afterStore
  split <;> rfl

theorem Image.afterStore_written {x : Image} (h : ¬x.isFixed = true) (job : StoreJob) :
    (x.afterStore job).guarded = ⟨true, true, job.guarded⟩ := by
  rw [Image.afterStore, if_neg h]

/-- What a completion leaves: no store, the Image written, the storing port's latch clear, and STORE_DONE where it is
due (R193, R194). -/
theorem State.completeStore_eq (s : State) {job : StoreJob} (h : s.store = some job) : s.completeStore = { s with
    store := none
    image := s.image.afterStore job
    ports := s.ports.set job.port { s.ports.get job.port with latch := false }
    events := if job.notify then s.events.set job.port { s.events.get job.port with
      flags := (s.events.get job.port).flags ||| eventMask .storeDone } else s.events } := by
  unfold State.completeStore
  rw [h]
  dsimp only
  cases job.notify <;> rfl

/-- Settles O30: each command by what it answers, the completion field by field, its Image by `Image.afterStore`. -/
theorem storing : Obligations.Storing := by
  unfold Obligations.Storing
  constructor
  · intro p f s htakes hbare latched
    have hanswer : ∀ {act : State → Result × State} {r t}, act (s.shifted p f) = (r, t) →
        s.writeFrame p f 0 (fun u _ => act u) = t.setResult p r := fun {act r t} h => by
      rw [s.writeFrame_bare p f (fun u _ => act u) htakes hbare, h]
    have hlatched : ∀ b, ((s.shifted p f).setLatch p b).setResult p .ok = latched b := fun b =>
      s.setLatch_answered p f b hbare
    have hlatch := s.shifted_latch p f
    refine ⟨?_, fun hbusy => ?_, fun hidle => ?_, fun hoff => ?_, fun hon hbusy => ?_, fun hon hidle => ?_⟩
    · rw [exec_enableStore, hanswer (act := fun u => (.ok, u.setLatch p true)) rfl, hlatched]
    · rw [exec_disableStore, hanswer ((s.shifted p f).disableStore_busy p hbusy), State.afterWrite]
    · rw [exec_disableStore, hanswer ((s.shifted p f).disableStore_idle p hidle), hlatched]
    · rw [exec_storeSettings, hanswer (State.storeSettings_unlatched _ p (hlatch.trans hoff)), State.afterWrite]
    · rw [exec_storeSettings, hanswer (State.storeSettings_busy _ p (hlatch.trans hon) hbusy), State.afterWrite]
    · rw [exec_storeSettings, hanswer (State.storeSettings_begins _ p (hlatch.trans hon) hidle)]
      rfl
  · intro s job hjob fixed
    rw [exec_storeCompletion, s.completeStore_eq hjob]
    exact ⟨_, rfl, rfl, Image.afterStore_general _ job, fun h => Image.afterStore_fixed (s.image.isFixed_iff.2 h) job,
      fun h => Image.afterStore_written (mt s.image.isFixed_iff.1 h) job, rfl, rfl⟩

/-! ### The start-up load (R195) -/

theorem Image.generalLoads_iff (x : Image) : x.generalLoads = true ↔ x.general.checkMatches = true ∧
    x.general.codesDefined = true ∧ x.general.content.plan.fault = none ∧ x.general.content.inRange = true := by
  simp [Image.generalLoads, and_assoc]

theorem Image.guardedLoads_iff (x : Image) :
    x.guardedLoads = true ↔ x.guarded.checkMatches = true ∧ x.guarded.codesDefined = true := by
  simp [Image.guardedLoads]

/-- What a completed load leaves: the settings of the Image or their defaults, the Plan Unit and the clock started by
them, and DEFAULTED where a part did not load (R22, R40, R41, R195). -/
theorem State.completeLoad_eq (s : State) : s.completeLoad = { s with
    power := .running
    settings := s.image.loaded
    plans := startPlans s.image.loaded.general.plan
    clockUnit := startClock s.image.loaded.general.source
    events := if s.image.generalLoads = true ∧ s.image.guardedLoads = true then s.events
      else (s.raiseBoth .defaulted).events } := by
  unfold State.completeLoad
  cases s.image.generalLoads <;> cases s.image.guardedLoads <;> rfl

/-- Settles O33: `State.completeLoad_eq`, each part of `Image.loaded` by whether it passes. -/
theorem loadCompletes : Obligations.LoadCompletes := by
  unfold Obligations.LoadCompletes
  intro s hpower hreset g good goodGuarded
  have hgeneral : s.image.generalLoads = true ↔ good := s.image.generalLoads_iff
  have hguarded : s.image.guardedLoads = true ↔ goodGuarded := s.image.guardedLoads_iff
  have hexec : exec .settingsLoadComplete s = .next s.completeLoad := by
    rw [exec_settingsLoadComplete, if_pos ⟨hpower, hreset⟩]
  rw [s.completeLoad_eq] at hexec
  refine ⟨_, hexec, rfl, fun h => if_pos (hgeneral.2 h), fun h => if_neg (mt hgeneral.1 h),
    fun h => if_pos (hguarded.2 h), fun h => if_neg (mt hguarded.1 h), rfl, startClock_eq _,
    fun h h' => if_pos ⟨hgeneral.2 h, hguarded.2 h'⟩, fun h p => ?_⟩
  rw [if_neg (mt (and_congr hgeneral hguarded).1 h), s.raiseBoth_flags]

end Sys2Proof.Machine
end

section
/-! What READ_SETTING reads, setting by setting, and what a write puts there (R62, R189, R190). -/

namespace Sys2Proof.Machine

/-! ### The values that a setting takes (Table 11.1) -/

theorem boolOf_eq_some {n : Nat} {b : Bool} : boolOf n = some b ↔ n ≤ 1 ∧ decide (n = 1) = b := by
  match n with
  | 0 | 1 | n + 2 => simp [boolOf]

theorem sourceOf_eq_some {n : Nat} {x : ClockSource} :
    sourceOf n = some x ↔ n ≤ 1 ∧ (if n = 1 then .house else .internal) = x := by
  match n with
  | 0 | 1 | n + 2 => simp [sourceOf]

theorem latencyOf_eq_some {n : Nat} {x : ReadLatency} :
    latencyOf n = some x ↔ (n = 4 ∨ n = 8) ∧ (if n = 4 then .four else .eight) = x := by
  unfold latencyOf
  split <;> simp_all

theorem lanesOf_eq_some {n : Nat} {x : LaneWidth} :
    lanesOf n = some x ↔ (n = 1 ∨ n = 4) ∧ (if n = 1 then .one else .four) = x := by
  unfold lanesOf
  split <;> simp_all

theorem retentionOf_eq_some {n : Nat} {x : Retention} :
    retentionOf n = some x ↔ (n = 1 ∨ n = 2) ∧ (if n = 1 then .binding else .yielding) = x := by
  unfold retentionOf
  split <;> simp_all

theorem accessOf_eq_some {n : Nat} {x : Access} :
    accessOf n = some x ↔ (n = 1 ∨ n = 2) ∧ (if n = 1 then .granted else .denied) = x := by
  unfold accessOf
  split <;> simp_all

theorem guardOf_eq_some {n : Nat} {x : GuardMode} : guardOf n = some x ↔ n ≤ 3 ∧
    (if n = 0 then .opened else if n = 1 then .keyed else if n = 2 then .sessionLock else .fixed) = x := by
  match n with
  | 0 | 1 | 2 | 3 | n + 4 => simp [guardOf]

/-- A write has a value to write exactly where the setting accepts it (R190). -/
theorem State.written_isSome (s : State) (x : SettingName) (v : Nat) :
    (s.written x v).isSome = true ↔ x.accepts v := by
  cases x <;> simp [State.written, SettingName.accepts, Option.isSome_iff_exists, within_eq_some, fillOf_eq_some,
    boolOf_eq_some, sourceOf_eq_some, latencyOf_eq_some, lanesOf_eq_some, retentionOf_eq_some, accessOf_eq_some,
    guardOf_eq_some]

/-! ### What READ_SETTING reads (R189) -/

/-- The settings as READ_SETTING reads them, a pending value in place of the one in effect, and the Bench Lines. -/
structure Panel where
  track : Fin 32 → TrackSettings
  margin : Nat
  challenge : Nat
  fill : Int
  source : ClockSource
  linkEnable : Fin 8 → Bool
  timing : Port → PortTiming
  retention : Port → Retention
  access : Port → Access
  mode : GuardMode
  lines : BenchLines

/-- The panel of a state (R20, R62, R189). -/
def State.panel (s : State) : Panel where
  track k := s.settings.general.track[k].taking s.changes.track[k]
  margin := s.changes.margin.getD s.settings.general.margin
  challenge := s.changes.challenge.getD s.settings.general.challenge
  fill := s.settings.general.fill
  source := s.changes.source.getD s.settings.general.source
  linkEnable n := s.settings.general.linkEnable[n]
  timing := s.settings.general.timing.get
  retention := s.settings.guarded.retention.get
  access := s.settings.guarded.access.get
  mode := s.settings.guarded.mode
  lines := s.proc.lines

/-- What a setting reads as on a panel. -/
def Panel.read (q : Panel) : SettingName → Int
  | .threshold k => (q.track k).threshold
  | .attack k => (q.track k).attack
  | .hangover k => (q.track k).hangover
  | .eligible k => boolValue (q.track k).eligible
  | .margin => q.margin
  | .challenge => q.challenge
  | .fill => q.fill
  | .source => (clockSourceCode q.source).toNat
  | .linkEnable n => boolValue (q.linkEnable n)
  | .latency p => latencyValue (q.timing p).latency
  | .lanes p => lanesValue (q.timing p).lanes
  | .retention p => (retentionCode (some (q.retention p))).toNat
  | .access p => (accessCode (q.access p)).toNat
  | .guard => (guardCode q.mode).toNat
  | .bench l => boolValue (q.lines.get l).level

theorem State.settingValue_eq (s : State) (x : SettingName) : s.settingValue x = s.panel.read x := by
  cases x <;> rfl

/-- The activity settings of one Track number changed. -/
def Panel.editTrack (q : Panel) (k : Fin 32) (f : TrackSettings → TrackSettings) : Panel :=
  { q with track := Function.update q.track k (f (q.track k)) }

/-- The timing of one port changed. -/
def Panel.editTiming (q : Panel) (p : Port) (f : PortTiming → PortTiming) : Panel :=
  { q with timing := Function.update q.timing p (f (q.timing p)) }

/-- A panel with a value put in place of one setting; a value that it does not accept changes nothing. -/
def Panel.put (q : Panel) (x : SettingName) (v : Nat) : Panel :=
  match x with
  | .threshold k => q.editTrack k fun y => { y with threshold := v }
  | .attack k => q.editTrack k fun y => { y with attack := v }
  | .hangover k => q.editTrack k fun y => { y with hangover := v }
  | .eligible k => q.editTrack k fun y => { y with eligible := (boolOf v).getD y.eligible }
  | .margin => { q with margin := v }
  | .challenge => { q with challenge := v }
  | .fill => { q with fill := (fillOf v).getD q.fill }
  | .source => { q with source := (sourceOf v).getD q.source }
  | .linkEnable n => { q with linkEnable := Function.update q.linkEnable n ((boolOf v).getD (q.linkEnable n)) }
  | .latency p => q.editTiming p fun y => { y with latency := (latencyOf v).getD y.latency }
  | .lanes p => q.editTiming p fun y => { y with lanes := (lanesOf v).getD y.lanes }
  | .retention p => { q with retention := Function.update q.retention p ((retentionOf v).getD (q.retention p)) }
  | .access p => { q with access := Function.update q.access p ((accessOf v).getD (q.access p)) }
  | .guard => { q with mode := (guardOf v).getD q.mode }
  | .bench _ => q

/-- What is put in place of a setting is what it reads as (R189, R198). -/
theorem Panel.read_put (q : Panel) {x : SettingName} {v : Nat} (h : x.accepts v) :
    (q.put x v).read x = x.shown v := by
  cases x with
  | threshold | attack | hangover => simp [Panel.read, Panel.put, Panel.editTrack, SettingName.shown]
  | margin | challenge => rfl
  | fill => simp [Panel.read, Panel.put, SettingName.shown, fillOf_eq_some.2 ⟨h, rfl⟩]
  | eligible k =>
    obtain rfl | rfl := Nat.le_one_iff_eq_zero_or_eq_one.1 h <;>
      simp [Panel.read, Panel.put, Panel.editTrack, SettingName.shown, boolOf, boolValue]
  | linkEnable n =>
    obtain rfl | rfl := Nat.le_one_iff_eq_zero_or_eq_one.1 h <;>
      simp [Panel.read, Panel.put, SettingName.shown, boolOf, boolValue]
  | source => obtain rfl | rfl := Nat.le_one_iff_eq_zero_or_eq_one.1 h <;> rfl
  | latency p | lanes p =>
    obtain rfl | rfl := h <;>
      simp [Panel.read, Panel.put, Panel.editTiming, SettingName.shown, latencyOf, latencyValue, lanesOf, lanesValue]
  | retention p | access p =>
    obtain rfl | rfl := h <;>
      simp [Panel.read, Panel.put, SettingName.shown, retentionOf, retentionCode, accessOf, accessCode]
  | guard =>
    have hcases : v = 0 ∨ v = 1 ∨ v = 2 ∨ v = 3 := by
      have hmost : v ≤ 3 := h
      omega
    obtain rfl | rfl | rfl | rfl := hcases <;> rfl
  | bench => exact h.elim

/-! ### Every other setting reads as before -/

/-- A part of what an edit of one thing leaves: of every other thing all of it, of that thing what the edit keeps. -/
theorem update_part {ι α β : Type} [DecidableEq ι] (part : α → β) (g : ι → α) (i j : ι) {x : α}
    (h : j = i → part x = part (g i)) : part (Function.update g i x j) = part (g j) := by
  rw [Function.update_apply]
  split
  · rename_i hij
    rw [h hij, hij]
  · rfl

section
variable (q : Panel) (y : SettingName)

/-- An edit that reaches the activity settings of one Track number, in those alone that `y` does not read. -/
theorem Panel.read_editTrack (k : Fin 32) (f : TrackSettings → TrackSettings)
    (ht : y ≠ .threshold k ∨ (f (q.track k)).threshold = (q.track k).threshold)
    (ha : y ≠ .attack k ∨ (f (q.track k)).attack = (q.track k).attack)
    (hh : y ≠ .hangover k ∨ (f (q.track k)).hangover = (q.track k).hangover)
    (he : y ≠ .eligible k ∨ (f (q.track k)).eligible = (q.track k).eligible) :
    (q.editTrack k f).read y = q.read y := by
  cases y with
  | threshold j =>
    exact congrArg Int.ofNat (update_part TrackSettings.threshold q.track k j fun hj => ht.resolve_left (by simp [hj]))
  | attack j =>
    exact congrArg Int.ofNat (update_part TrackSettings.attack q.track k j fun hj => ha.resolve_left (by simp [hj]))
  | hangover j =>
    exact congrArg Int.ofNat (update_part TrackSettings.hangover q.track k j fun hj => hh.resolve_left (by simp [hj]))
  | eligible j =>
    exact congrArg (fun b => (boolValue b : Int))
      (update_part TrackSettings.eligible q.track k j fun hj => he.resolve_left (by simp [hj]))
  | _ => rfl

theorem Panel.read_editTiming (p : Port) (f : PortTiming → PortTiming)
    (hl : y ≠ .latency p ∨ (f (q.timing p)).latency = (q.timing p).latency)
    (hw : y ≠ .lanes p ∨ (f (q.timing p)).lanes = (q.timing p).lanes) :
    (q.editTiming p f).read y = q.read y := by
  cases y with
  | latency r =>
    exact congrArg (fun l => (latencyValue l : Int))
      (update_part PortTiming.latency q.timing p r fun hr => hl.resolve_left (by simp [hr]))
  | lanes r =>
    exact congrArg (fun w => (lanesValue w : Int))
      (update_part PortTiming.lanes q.timing p r fun hr => hw.resolve_left (by simp [hr]))
  | _ => rfl

/-- A value put in place of one setting changes no other (R189). -/
theorem Panel.read_put_other {x : SettingName} (v : Nat) (h : y ≠ x) : (q.put x v).read y = q.read y := by
  cases x with
  | threshold k => rw [Panel.put]; exact q.read_editTrack y k _ (.inl h) (.inr rfl) (.inr rfl) (.inr rfl)
  | attack k => rw [Panel.put]; exact q.read_editTrack y k _ (.inr rfl) (.inl h) (.inr rfl) (.inr rfl)
  | hangover k => rw [Panel.put]; exact q.read_editTrack y k _ (.inr rfl) (.inr rfl) (.inl h) (.inr rfl)
  | eligible k => rw [Panel.put]; exact q.read_editTrack y k _ (.inr rfl) (.inr rfl) (.inr rfl) (.inl h)
  | latency p => exact q.read_editTiming y p _ (.inl h) (.inr rfl)
  | lanes p => exact q.read_editTiming y p _ (.inr rfl) (.inl h)
  | linkEnable n =>
    cases y with
    | linkEnable m =>
      exact congrArg (fun b => (boolValue b : Int)) (update_part id q.linkEnable n m fun hm => absurd (hm ▸ rfl) h)
    | _ => rfl
  | retention p =>
    cases y with
    | retention r =>
      exact congrArg (fun c => ((retentionCode (some c)).toNat : Int))
        (update_part id q.retention p r fun hr => absurd (hr ▸ rfl) h)
    | _ => rfl
  | access p =>
    cases y with
    | access r =>
      exact congrArg (fun c => ((accessCode c).toNat : Int))
        (update_part id q.access p r fun hr => absurd (hr ▸ rfl) h)
    | _ => rfl
  | margin => cases y with
    | margin => exact absurd rfl h
    | _ => rfl
  | challenge => cases y with
    | challenge => exact absurd rfl h
    | _ => rfl
  | fill => cases y with
    | fill => exact absurd rfl h
    | _ => rfl
  | source => cases y with
    | source => exact absurd rfl h
    | _ => rfl
  | guard => cases y with
    | guard => exact absurd rfl h
    | _ => rfl
  | bench => rfl

end

end Sys2Proof.Machine
end

section
/-! What a written setting leaves: the panel that READ_SETTING reads with its value put there, the plan and the Gain
Codes as they were, and the rest of the state but for what R10, R20 and R62 name. -/

namespace Sys2Proof.Machine

section
variable {s t : State}

/-! ### Activity settings and the panel (R62) -/

/-- The pending settings of one Track number changed: the panel shows what they make of those in effect. -/
theorem State.updatePending_panel (s : State) (k : Fin 32) {f : TrackSettings → TrackSettings}
    {q : PendingTrack → PendingTrack} (h : ∀ y c, TrackSettings.taking y (q c) = f (y.taking c)) :
    (s.updatePending k q).panel = s.panel.editTrack k f := by
  have htrack : (s.updatePending k q).panel.track = Function.update s.panel.track k (f (s.panel.track k)) := by
    funext j
    simp only [State.panel, State.updatePending, Function.update_apply, Fin.getElem_fin, Vector.getElem_set,
      Fin.val_inj, eq_comm (a := k)]
    split
    · rename_i hj
      rw [hj, h]
    · rfl
  exact congrArg (fun g => { s.panel with track := g }) htrack

/-- The settings in effect of one Track number changed, with nothing waiting for them. -/
theorem State.updateTrack_panel (s : State) (k : Fin 32) (f : TrackSettings → TrackSettings)
    (h : s.changes = noChanges) : (s.updateTrack k f).panel = s.panel.editTrack k f := by
  have hidle : ∀ (y : TrackSettings) (j : Fin 32), y.taking s.changes.track[j] = y := fun y j => by
    rw [h, Fin.getElem_fin, noChanges, Vector.getElem_replicate]
    rfl
  have htrack : (s.updateTrack k f).panel.track = Function.update s.panel.track k (f (s.panel.track k)) := by
    funext j
    simp only [State.panel, State.updateTrack, State.setGeneral, Function.update_apply, hidle]
    simp only [Fin.getElem_fin, Vector.getElem_set, Fin.val_inj, eq_comm (a := k)]
  exact congrArg (fun g => { s.panel with track := g }) htrack

/-- A write that waits in an open Session, else takes effect, shows the same panel either way. -/
theorem State.panel_either {q : Panel} {a b : State} (h : s.sessionOpen = true ∨ s.changes = noChanges)
    (ha : a.panel = q) (hb : s.changes = noChanges → b.panel = q) :
    (if s.sessionOpen then a else b).panel = q := by
  split
  · exact ha
  · rename_i hclosed
    exact hb (h.resolve_left hclosed)

/-- A port's timing changed. -/
theorem State.updateTiming_panel (s : State) (p : Port) (f : PortTiming → PortTiming) :
    (s.updateTiming p f).panel = s.panel.editTiming p f := by
  have htiming : (s.updateTiming p f).panel.timing = Function.update s.panel.timing p (f (s.panel.timing p)) := by
    funext r
    cases p <;> cases r <;> rfl
  exact congrArg (fun g => { s.panel with timing := g }) htiming

/-- What is held once for each port, with one port's changed. -/
theorem Both.get_set_update {α : Type} (x : Both α) (p : Port) (v : α) :
    (x.set p v).get = Function.update x.get p v := by
  funext r
  cases p <;> cases r <;> rfl

theorem State.enableLink_panel (s : State) (n : Fin 8) (on : Bool) :
    (s.enableLink n on).panel = { s.panel with linkEnable := Function.update s.panel.linkEnable n on } := by
  obtain ⟨l, r, e, m, heq⟩ := s.enableLink_keeps n on
  have hlink : (fun m : Fin 8 => (s.settings.general.linkEnable.set n on)[m]) =
      Function.update s.panel.linkEnable n on := by
    funext m
    simp only [State.panel, Function.update_apply, Fin.getElem_fin, Vector.getElem_set, Fin.val_inj, eq_comm (a := n)]
  rw [heq]
  exact congrArg (fun g => { s.panel with linkEnable := g }) hlink

theorem State.applySource_panel (s : State) (x : ClockSource) (h : s.changes.source = none) :
    (s.applySource x).panel = { s.panel with source := x } := by
  obtain ⟨e, heq⟩ := s.applySource_keeps x
  rw [heq]
  simp only [State.panel, h, Option.getD_none]

/-- A written setting is put into the panel, and nothing else is changed there (R62, R189, R190). -/
theorem State.written_panel (h : s.sessionOpen = true ∨ s.changes = noChanges) {x : SettingName} {v : Nat}
    (ht : s.written x v = some t) : t.panel = s.panel.put x v := by
  cases x with
  | bench => exact nomatch ht
  | threshold k | attack k =>
    obtain ⟨w, hw, rfl⟩ := Option.map_eq_some_iff.1 ht
    obtain ⟨-, rfl⟩ := within_eq_some.1 hw
    rw [Panel.put]
    exact State.panel_either h (s.updatePending_panel k fun _ _ => rfl) (s.updateTrack_panel k _)
  | hangover k =>
    obtain ⟨w, hw, rfl⟩ := Option.map_eq_some_iff.1 ht
    obtain ⟨-, rfl⟩ := within_eq_some.1 hw
    rw [Panel.put]
    exact State.panel_either h (s.updatePending_panel k fun _ _ => rfl)
      (s.updateTrack_panel k fun y => { y with hangover := v })
  | eligible k =>
    obtain ⟨w, hw, rfl⟩ := Option.map_eq_some_iff.1 ht
    rw [Panel.put, hw]
    refine State.panel_either h (s.updatePending_panel k fun _ _ => rfl) fun hnone => ?_
    have heffect := s.updateTrack_panel k (fun y => { y with eligible := w }) hnone
    dsimp only
    split <;> exact heffect
  | margin | challenge =>
    obtain ⟨w, hw, rfl⟩ := Option.map_eq_some_iff.1 ht
    obtain ⟨-, rfl⟩ := within_eq_some.1 hw
    exact State.panel_either h rfl fun hnone => by simp only [State.panel, State.setGeneral, hnone]; rfl
  | fill =>
    obtain ⟨w, hw, rfl⟩ := Option.map_eq_some_iff.1 ht
    rw [Panel.put, hw]
    rfl
  | source =>
    obtain ⟨w, hw, rfl⟩ := Option.map_eq_some_iff.1 ht
    rw [Panel.put, hw]
    refine State.panel_either h ?_ fun _ => State.applySource_panel _ w rfl
    by_cases hsame : w = s.settings.general.source <;> simp [State.panel, hsame]
  | linkEnable n =>
    obtain ⟨w, hw, rfl⟩ := Option.map_eq_some_iff.1 ht
    rw [Panel.put, hw]
    exact s.enableLink_panel n w
  | latency p | lanes p =>
    obtain ⟨w, hw, rfl⟩ := Option.map_eq_some_iff.1 ht
    rw [Panel.put, hw]
    exact s.updateTiming_panel p _
  | retention p =>
    obtain ⟨w, hw, rfl⟩ := Option.map_eq_some_iff.1 ht
    rw [Panel.put, hw]
    exact congrArg (fun g => { s.panel with retention := g }) (s.settings.guarded.retention.get_set_update p w)
  | access p =>
    obtain ⟨w, hw, rfl⟩ := Option.map_eq_some_iff.1 ht
    rw [Panel.put, hw]
    exact congrArg (fun g => { s.panel with access := g }) (s.settings.guarded.access.get_set_update p w)
  | guard =>
    obtain ⟨w, hw, rfl⟩ := Option.map_eq_some_iff.1 ht
    rw [Panel.put, hw]
    rfl

/-! ### What a write leaves alone -/

/-- The settings and what waits taken over from another state. -/
def State.withSettingsOf (s t : State) : State := { s with settings := t.settings, changes := t.changes }

/-- The plan and the Gain Codes, in effect and waiting: no setting has an identifier for them. -/
def State.levels (s : State) : Plan × Vector Nat 32 × Vector (Option Nat) 32 :=
  (s.settings.general.plan, s.settings.general.gain, s.changes.gain)

theorem State.levels_ite {c : Prop} [Decidable c] {a b : State} (ha : a.levels = s.levels)
    (hb : b.levels = s.levels) : (if c then a else b).levels = s.levels :=
  iteInduction (motive := fun u : State => u.levels = s.levels) (fun _ => ha) fun _ => hb

theorem State.written_levels {x : SettingName} {v : Nat} (ht : s.written x v = some t) : t.levels = s.levels := by
  cases x with
  | bench => exact nomatch ht
  | threshold | attack | hangover | margin | challenge =>
    obtain ⟨w, -, rfl⟩ := Option.map_eq_some_iff.1 ht
    exact State.levels_ite rfl rfl
  | eligible =>
    obtain ⟨w, -, rfl⟩ := Option.map_eq_some_iff.1 ht
    exact State.levels_ite rfl (State.levels_ite rfl rfl)
  | source =>
    obtain ⟨w, -, rfl⟩ := Option.map_eq_some_iff.1 ht
    obtain ⟨e, heq⟩ := State.applySource_keeps { s with changes := { s.changes with source := none } } w
    exact State.levels_ite rfl (by rw [heq]; rfl)
  | linkEnable n =>
    obtain ⟨w, -, rfl⟩ := Option.map_eq_some_iff.1 ht
    obtain ⟨l, r, e, m, heq⟩ := s.enableLink_keeps n w
    rw [heq]
    rfl
  | fill | latency | lanes | retention | access | guard =>
    obtain ⟨w, -, rfl⟩ := Option.map_eq_some_iff.1 ht
    rfl

/-- In an open Session a write only waits, or has an effect on the settings alone (R62). -/
theorem State.written_open (ho : s.sessionOpen = true) {x : SettingName} {v : Nat} (hx : ∀ n, x ≠ .linkEnable n)
    (ht : s.written x v = some t) : t = s.withSettingsOf t := by
  have hwaits : ∀ {a b : State}, a = s.withSettingsOf a →
      (if s.sessionOpen then a else b) = s.withSettingsOf (if s.sessionOpen then a else b) := fun ha => by
    rw [if_pos ho]
    exact ha
  cases x with
  | bench => exact nomatch ht
  | threshold | attack | hangover | eligible | margin | challenge | source =>
    obtain ⟨w, -, rfl⟩ := Option.map_eq_some_iff.1 ht
    exact hwaits rfl
  | linkEnable n => exact absurd rfl (hx n)
  | fill | latency | lanes | retention | access | guard =>
    obtain ⟨w, -, rfl⟩ := Option.map_eq_some_iff.1 ht
    rfl

/-- In CLOSED a write has an effect on the settings alone, but for those that R10, R20 and R62 name. -/
theorem State.written_closed (hc : s.sessionOpen = false) {x : SettingName} {v : Nat}
    (hh : ∀ k, x ≠ .hangover k) (he : ∀ k, x ≠ .eligible k) (hs : x ≠ .source) (hl : ∀ n, x ≠ .linkEnable n)
    (ht : s.written x v = some t) : t = s.withSettingsOf t := by
  have heffect : ∀ {a b : State}, b = s.withSettingsOf b →
      (if s.sessionOpen then a else b) = s.withSettingsOf (if s.sessionOpen then a else b) := fun hb => by
    rw [if_neg (by rw [hc]; nofun)]
    exact hb
  cases x with
  | bench => exact nomatch ht
  | threshold | attack | margin | challenge =>
    obtain ⟨w, -, rfl⟩ := Option.map_eq_some_iff.1 ht
    exact heffect rfl
  | hangover k => exact absurd rfl (hh k)
  | eligible k => exact absurd rfl (he k)
  | source => exact absurd rfl hs
  | linkEnable n => exact absurd rfl (hl n)
  | fill | latency | lanes | retention | access | guard =>
    obtain ⟨w, -, rfl⟩ := Option.map_eq_some_iff.1 ht
    rfl

/-! ### The writes with an effect of their own (R10, R20, R62) -/

section
variable (s)

theorem State.writeHangover_closed (hc : s.sessionOpen = false) (k : Fin 32) (v : Nat) :
    s.writeHangover k v = { s.withSettingsOf (s.writeHangover k v) with
      activity := s.activity.set k ⟨s.activity[k].state, s.activity[k].attack, min s.activity[k].hang v⟩ } := by
  unfold State.writeHangover
  rw [hc]
  rfl

/-- NO written in CLOSED for the Floor Holder frees the Floor (R62). -/
theorem State.writeEligible_frees (hc : s.sessionOpen = false) {k : Fin 32} (hk : s.floor.holder = some k) :
    s.writeEligible k false =
      State.raiseBoth { s.withSettingsOf (s.writeEligible k false) with floor := startFloor } .floor := by
  unfold State.writeEligible
  simp only [hc, Bool.false_eq_true, if_false, State.updateTrack, State.setGeneral_floor, hk, and_self, if_true]
  rfl

theorem State.writeEligible_keeps (hc : s.sessionOpen = false) {k : Fin 32} {b : Bool}
    (hk : ¬(b = false ∧ s.floor.holder = some k)) : s.writeEligible k b = s.withSettingsOf (s.writeEligible k b) := by
  have hplain : s.writeEligible k b = s.updateTrack k fun y => { y with eligible := b } := by
    unfold State.writeEligible
    simp only [hc, Bool.false_eq_true, if_false]
    exact if_neg hk
  rw [hplain]
  rfl

/-- A source written in CLOSED: the unit where the setting says, and CLOCK where the source in use changes (R20,
R21). -/
theorem State.writeSource_closed (hc : s.sessionOpen = false) (x : ClockSource) :
    s.writeSource x = if (s.withSource x).sourceInUse = s.sourceInUse then s.withSource x
      else (s.withSource x).raiseBoth .clock := by
  unfold State.writeSource
  rw [hc]
  rfl

theorem State.writeSource_settings (hc : s.sessionOpen = false) (x : ClockSource) :
    s.writeSource x = { s.withSettingsOf (s.writeSource x) with
      clockUnit := { s.clockUnit with state := s.clockUnit.afterSetting x }
      events := (s.writeSource x).events } := by
  rw [s.writeSource_closed hc]
  split <;> rfl

/-- The Event Flags after such a write (R21). -/
theorem State.writeSource_events (hc : s.sessionOpen = false) (x : ClockSource) (p : Port) :
    ((s.writeSource x).events.get p).mask = (s.events.get p).mask ∧ ((s.writeSource x).events.get p).flags =
      if (s.writeSource x).sourceInUse = s.sourceInUse then (s.events.get p).flags
      else (s.events.get p).flags ||| eventMask .clock := by
  rw [s.writeSource_closed hc]
  by_cases hsame : (s.withSource x).sourceInUse = s.sourceInUse
  · rw [if_pos hsame, if_pos hsame]
    exact ⟨rfl, rfl⟩
  · rw [if_neg hsame]
    exact ⟨by cases p <;> rfl, (State.raiseBoth_flags _ .clock p).trans (if_neg hsame).symm⟩

theorem State.enableLink_same {n : Fin 8} {on : Bool} (h : s.settings.general.linkEnable[n] = on) :
    s.enableLink n on = s := if_pos h

/-- A link turned off goes DOWN with its transition counts cleared (R10). -/
theorem State.enableLink_off {n : Fin 8} (h : s.settings.general.linkEnable[n] = true) :
    s.enableLink n false = { s.withSettingsOf (s.enableLink n false) with links := s.links.set n { s.links[n] with
      state := .down, goodRun := 0, withoutGood := 0, seekStay := 0, slipStay := 0 } } := by
  unfold State.enableLink
  rw [h]
  rfl

/-- A link turned on, whose frame of the present Sample Period has come or is not to come (R10). -/
theorem State.enableLink_on {n : Fin 8} (h : s.settings.general.linkEnable[n] = false)
    (ha : s.awaitsFrame n = false) : s.enableLink n true = s.withSettingsOf (s.enableLink n true) := by
  unfold State.enableLink
  rw [h, ha]
  rfl

/-- A link turned on while its frame has not come: that frame is passed over (R10; log entry 25). -/
theorem State.enableLink_on_awaiting {n : Fin 8} (h : s.settings.general.linkEnable[n] = false)
    (ha : s.awaitsFrame n = true) :
    s.enableLink n true = (s.receiveLink n .absent).withSettingsOf (s.enableLink n true) := by
  unfold State.enableLink
  rw [h, ha]
  rfl

end

end

end Sys2Proof.Machine
end

section
/-! WRITE_SETTING: its tests in order, and all that a write reaches (R10, R20, R62, R189 to R191). -/

namespace Sys2Proof.Machine

/-! ### The tests of WRITE_SETTING (R190, R191) -/

theorem exec_writeSetting (p : Port) (f : Frame) (s : State) : exec (.writeSetting p f) s =
    .next (s.writeFrame p f 6 fun t bs => t.writeSetting (number bs 0 2) (number bs 2 4)) := rfl

theorem SettingName.guarded_iff (x : SettingName) :
    x.guarded = true ↔ (∃ q, x = .retention q) ∨ (∃ q, x = .access q) ∨ x = .guard := by
  cases x <;> simp [SettingName.guarded]

theorem State.guardPermits_iff (s : State) : s.guardPermits = true ↔ s.settings.guarded.mode = .opened ∨
    (s.settings.guarded.mode = .keyed ∧ s.proc.lines.key.level = true) := by
  unfold State.guardPermits
  split <;> simp [*]

section
variable (s : State) {id v : Nat} {x : SettingName}

theorem State.writeSetting_unnamed (h : settingOf id = none) : s.writeSetting id v = (.range, s) := by
  rw [State.writeSetting, h]

theorem State.writeSetting_refused (h : settingOf id = some x) (hv : ¬x.accepts v) :
    s.writeSetting id v = (.range, s) := by
  have hnone : s.written x v = none := Option.not_isSome_iff_eq_none.1 (mt (s.written_isSome x v).1 hv)
  simp only [State.writeSetting, h, hnone]

/-- What a value that the setting accepts is answered with, by the Guard Mode (R191). -/
theorem State.writeSetting_accepted (h : settingOf id = some x) {t : State} (ht : s.written x v = some t) :
    s.writeSetting id v = if x.guarded = true ∧ ¬s.guardPermits = true then (.guarded, s) else (.ok, t) := by
  simp only [State.writeSetting, h, ht, Bool.and_eq_true, Bool.not_eq_true', Bool.not_eq_true]

end

/-- The identifier and the value of a WRITE_SETTING read back where they were sent (R198). -/
theorem number_setting {id v : Nat} (hid : id < 65536) (hv : v < 2 ^ 32) :
    number (le 2 id ++ le 4 v) 0 2 = id ∧ number (le 2 id ++ le 4 v) 2 4 = v :=
  ⟨number_le_append 2 id _ hid, (number_append 2 id (le 4 v) 0 4).trans (number_le 4 v hv)⟩

theorem exec_writeSetting_answers (s : State) (p : Port) (f : Frame) {id v : Nat} (htakes : s.takes p f)
    (hid : id < 65536) (hv : v < 2 ^ 32) (hhears : s.hears p f (le 2 id ++ le 4 v)) {r : Result} {t : State}
    (h : (s.shifted p f).writeSetting id v = (r, t)) :
    exec (.writeSetting p f) s = .next (t.setResult p r) := by
  obtain ⟨hidRead, hvRead⟩ := number_setting hid hv
  refine (exec_writeSetting p f s).trans (congrArg _ (s.writeFrame_answers p f (act := fun t bs =>
    t.writeSetting (number bs 0 2) (number bs 2 4)) htakes hhears ?_))
  rwa [hidRead, hvRead]

/-! ### What a write reaches -/

section
variable {s t : State} {v : Nat}

/-- The state that R20 puts the clock unit into, by the value written. -/
theorem State.written_source (hc : s.sessionOpen = false) (ht : s.written .source v = some t) :
    t = { s.withSettingsOf t with
      clockUnit := { s.clockUnit with state := t.clockUnit.state }, events := t.events } ∧
    (v = 0 → t.clockUnit.state = .internal) ∧
    (v = 1 → s.clockUnit.state = .internal →
      t.clockUnit.state = if s.clockUnit.housePresent = 48000 then .house else .fallback) ∧
    (v = 1 → s.clockUnit.state ≠ .internal → t.clockUnit.state = s.clockUnit.state) ∧
    ∀ q : Port, (t.events.get q).mask = (s.events.get q).mask ∧ (t.events.get q).flags =
      if t.sourceInUse = s.sourceInUse then (s.events.get q).flags
      else (s.events.get q).flags ||| eventMask .clock := by
  obtain ⟨x, hx, rfl⟩ := Option.map_eq_some_iff.1 ht
  have heq := s.writeSource_settings hc x
  have hunit : (s.writeSource x).clockUnit.state = s.clockUnit.afterSetting x := congrArg (·.clockUnit.state) heq
  rw [hunit]
  refine ⟨heq, ?_, ?_, ?_, s.writeSource_events hc x⟩
  · rintro rfl
    obtain rfl := Option.some.inj hx
    rfl
  · rintro rfl hinternal
    obtain rfl := Option.some.inj hx
    simp only [ClockUnit.afterSetting, hinternal]
  · rintro rfl hother
    obtain rfl := Option.some.inj hx
    cases hstate : s.clockUnit.state with
    | internal => exact absurd hstate hother
    | house | fallback => simp only [ClockUnit.afterSetting, hstate]

/-- A written eligibility in CLOSED (R62). -/
theorem State.written_eligible (hc : s.sessionOpen = false) {k : Fin 32} (ht : s.written (.eligible k) v = some t) :
    (v = 0 → s.floor.holder = some k →
      t = State.raiseBoth { s.withSettingsOf t with floor := ⟨none, none, 0⟩ } .floor) ∧
      ((v ≠ 0 ∨ s.floor.holder ≠ some k) → t = s.withSettingsOf t) := by
  obtain ⟨b, hb, rfl⟩ := Option.map_eq_some_iff.1 ht
  obtain ⟨hle, rfl⟩ := boolOf_eq_some.1 hb
  constructor
  · rintro rfl hk
    exact s.writeEligible_frees hc hk
  · intro hother
    refine s.writeEligible_keeps hc fun ⟨hno, hk⟩ => ?_
    have hzero : v ≠ 1 := of_decide_eq_false hno
    exact hother.elim (fun hv => by omega) fun hne => hne hk

/-- A written link enable (R10; log entry 25). -/
theorem State.written_linkEnable {n : Fin 8} (ht : s.written (.linkEnable n) v = some t) :
    (s.settings.general.linkEnable[n] = decide (v = 1) → t = s) ∧
    (s.settings.general.linkEnable[n] = true → v = 0 → t = { s.withSettingsOf t with
      links := s.links.set n { s.links[n] with
        state := .down, goodRun := 0, withoutGood := 0, seekStay := 0, slipStay := 0 } }) ∧
    (s.settings.general.linkEnable[n] = false → v = 1 → s.awaitsFrame n = false → t = s.withSettingsOf t) ∧
    (s.settings.general.linkEnable[n] = false → v = 1 → s.awaitsFrame n = true →
      t = (s.receiveLink n .absent).withSettingsOf t) := by
  obtain ⟨b, hb, rfl⟩ := Option.map_eq_some_iff.1 ht
  obtain ⟨-, rfl⟩ := boolOf_eq_some.1 hb
  refine ⟨s.enableLink_same, ?_, ?_, ?_⟩
  · rintro hon rfl
    exact s.enableLink_off hon
  · rintro hoff rfl ha
    exact s.enableLink_on hoff ha
  · rintro hoff rfl ha
    exact s.enableLink_on_awaiting hoff ha

end

/-- Settles O29: the tests by the branches of `State.writeSetting`, what reads back by `State.written_panel` and
`Panel.put`, and what a write reaches setting by setting. -/
theorem writeSetting : Obligations.WriteSetting := by
  unfold Obligations.WriteSetting
  constructor
  · intro p f id v s htakes hid hv hhears guarded refuses
    have hanswer := fun {r t} => exec_writeSetting_answers s p f htakes hid hv hhears (r := r) (t := t)
    have hpermits : ¬(s.shifted p f).guardPermits = true ↔ refuses := not_congr (s.shifted p f).guardPermits_iff
    refine ⟨fun hnone => hanswer (State.writeSetting_unnamed _ hnone), fun x hx => ⟨fun hout => ?_, ?_, ?_⟩⟩
    · exact hanswer (State.writeSetting_refused _ hx hout)
    all_goals
      intro hin
      obtain ⟨t, ht⟩ := Option.isSome_iff_exists.1 (((s.shifted p f).written_isSome x v).2 hin)
      have hwrite := (s.shifted p f).writeSetting_accepted hx ht
    · intro hguarded hrefuses
      exact hanswer (hwrite.trans (if_pos ⟨x.guarded_iff.2 hguarded, hpermits.2 hrefuses⟩))
    · intro hpasses
      exact ⟨t, ht, hanswer (hwrite.trans (if_neg (mt (and_congr x.guarded_iff hpermits).1 hpasses)))⟩
  · intro x v s t hquiet ht
    have hpanel := State.written_panel hquiet ht
    have haccepts : x.accepts v := (s.written_isSome x v).1 (by rw [ht]; rfl)
    obtain ⟨hplan, hgain, hwaiting⟩ : t.settings.general.plan = s.settings.general.plan ∧
        t.settings.general.gain = s.settings.general.gain ∧ t.changes.gain = s.changes.gain := by
      simpa only [State.levels, Prod.mk.injEq] using State.written_levels ht
    refine ⟨?_, fun y hy => ?_, hplan, hgain, hwaiting, fun ho hl => State.written_open ho hl ht,
      fun hc hh he hs hl => State.written_closed hc hh he hs hl ht, ?_, ?_, ?_, ?_, ?_⟩
    · rw [t.settingValue_eq, hpanel, s.panel.read_put haccepts]
    · rw [t.settingValue_eq, hpanel, s.panel.read_put_other y v hy, s.settingValue_eq]
    · rintro k hc rfl
      obtain ⟨w, hw, rfl⟩ := Option.map_eq_some_iff.1 ht
      obtain ⟨-, rfl⟩ := within_eq_some.1 hw
      exact s.writeHangover_closed hc k v
    · rintro k hc rfl
      exact (State.written_eligible hc ht).1
    · rintro k hc rfl
      exact (State.written_eligible hc ht).2
    · rintro hc rfl
      exact State.written_source hc ht
    · rintro n rfl
      exact State.written_linkEnable ht

end Sys2Proof.Machine
end

section
/-! A step of the queue, and the layouts of chapter 12: the responses, the headers of Blocks, and the entries of Tracks
and of Marks, field by field (R198 to R200, R202). -/

namespace Sys2Proof.Machine

/-- Settles O1: `step` by the shape of its queue. -/
theorem stepTakesFront : Obligations.StepTakesFront := by
  unfold Obligations.StepTakesFront
  refine ⟨fun c rest s => rfl, fun s hempty => ?_⟩
  rw [step, hempty]

/-! ### Fields and slices of a byte list (R198) -/

@[simp] theorem le_drop {n i : Nat} (v : Nat) (h : n ≤ i) : (le n v).drop i = [] :=
  List.drop_eq_nil_of_le ((le_length n v).trans_le h)

@[simp] theorem fieldAt_cons_succ (b : Byte) (d : List Byte) (i n : Nat) :
    fieldAt (b :: d) (i + 1) n = fieldAt d i n := rfl

@[simp] theorem fieldAt_le_whole (n v : Nat) : fieldAt (le n v) 0 n = v % 256 ^ n := by
  rw [← List.append_nil (le n v), fieldAt_le]

@[simp] theorem toNat_lt_two_bytes (x : BitVec 16) : x.toNat < 65536 := x.isLt

@[simp] theorem toNat_lt_four_bytes (x : BitVec 32) : x.toNat < 4294967296 := x.isLt

section
variable {d xs : List Byte} {i j k m n : Nat}

/-- A byte of a response, from the slice of it that holds the byte. -/
theorem getD_of_slice {b : Byte} (h : (d.drop i).take n = xs) (k : Nat) (hj : j = i + k) (hb : xs[k]? = some b) :
    d.getD j 0 = b := by
  subst h hj
  obtain ⟨hk, -⟩ := List.getElem?_eq_some_iff.1 hb
  rw [List.length_take] at hk
  rw [List.getElem?_take_of_lt (by omega), List.getElem?_drop] at hb
  rw [List.getD_eq_getElem?_getD, hb, Option.getD_some]

/-- A field of a response, from the slice of it that holds the field. -/
theorem fieldAt_of_slice (h : (d.drop i).take n = xs) (k : Nat) (hj : j = i + k) (hk : k + m ≤ n) :
    fieldAt d j m = fieldAt xs k m := by
  subst h hj
  rw [fieldAt, fieldAt, List.drop_take, List.take_take, List.drop_drop, Nat.min_eq_left (by omega)]

theorem slice_of_slice (h : (d.drop i).take n = xs) (hk : k + m ≤ n) :
    (d.drop (i + k)).take m = (xs.drop k).take m := by
  subst h
  rw [List.drop_take, List.take_take, List.drop_drop, Nat.min_eq_left (by omega)]

theorem slice_append_left (xs ys : List Byte) (h : k + m ≤ xs.length) :
    ((xs ++ ys).drop k).take m = (xs.drop k).take m := by
  rw [List.drop_append_of_le_length (by omega), List.take_append_of_le_length (by rw [List.length_drop]; omega)]

theorem slice_padTo (hk : k + m ≤ n) (hm : k + m ≤ xs.length) :
    ((padTo n xs).drop k).take m = (xs.drop k).take m := by
  rw [padTo, slice_append_left _ _ (by rw [List.length_take]; omega), List.drop_take, List.take_take,
    Nat.min_eq_left (by omega)]

/-- A table holds its entries one after the other. -/
theorem slice_flatMap {α : Type} (f : α → List Byte) (hf : ∀ a, (f a).length = n) (xs : List α)
    (hi : i < xs.length) : ((xs.flatMap f).drop (n * i)).take n = f xs[i] := by
  induction xs generalizing i with
  | nil => exact absurd hi (Nat.not_lt_zero i)
  | cons x xs ih =>
    rw [List.flatMap_cons]
    cases i with
    | zero => rw [Nat.mul_zero, List.drop_zero, List.take_left' (hf x), List.getElem_cons_zero]
    | succ i =>
      rw [List.getElem_cons_succ, Nat.mul_succ, Nat.add_comm, ← List.drop_drop, List.drop_left' (hf x),
        ih (Nat.lt_of_succ_lt_succ hi)]

end

/-! ### Lengths -/

@[simp] theorem State.linkBytes_length (s : State) (n : Fin 8) : (s.linkBytes n).length = 4 := by
  simp [State.linkBytes]

@[simp] theorem groupBytes_length (g : Option Group) : (groupBytes g).length = 3 := by
  cases g <;> rfl

@[simp] theorem Plan.bytes_length (p : Plan) : p.bytes.length = 50 := by
  simp [Plan.bytes]

@[simp] theorem State.trackBytes_length (s : State) (hidden : Bool) (k : Fin 32) :
    (s.trackBytes hidden k).length = 6 := by
  simp [State.trackBytes]

@[simp] theorem holdBytes_length (h : Option Hold) : (holdBytes h).length = 10 := by
  cases h <;> simp [holdBytes]

@[simp] theorem TrackEntry.bytes_length (e : TrackEntry) : e.bytes.length = 6 := by
  simp [TrackEntry.bytes]

@[simp] theorem entryBytes_length (es : List TrackEntry) : (entryBytes es).length = 192 := padTo_length _ _

@[simp] theorem lastBytes_length (access : Access) (x : Option LastBlock) : (lastBytes access x).length = 200 := by
  cases x with
  | none => rfl
  | some l =>
    rw [lastBytes]
    split <;> simp

@[simp] theorem Block.header_length (b : Block) (withheld : Bool) : (b.header withheld).length = 256 := by
  simp [Block.header]

/-! ### Flag bytes (Tables 12.5 and 12.7) -/

theorem byte_of_five_flags : ∀ a b c d e : Bool,
    let x := byte ((if a then 1 else 0) + (if b then 2 else 0) + (if c then 4 else 0) + (if d then 8 else 0) +
      (if e then 16 else 0))
    x[0] = a ∧ x[1] = b ∧ x[2] = c ∧ x[3] = d ∧ x[4] = e ∧ x.toNat < 32 := by
  decide

@[simp] theorem ReaderFlags.byte_flags (f : ReaderFlags) : f.byte[0] = f.avail ∧ f.byte[1] = f.empty ∧
    f.byte[2] = f.half ∧ f.byte[3] = f.lagWarn ∧ f.byte[4] = f.atFloor ∧ f.byte.toNat < 32 :=
  byte_of_five_flags ..

@[simp] theorem Mark.flagBits_flags (m : Mark) (withheld : Bool) : (m.flagBits withheld)[0] = m.restricted ∧
    (m.flagBits withheld)[1] = m.clamped ∧ (m.flagBits withheld)[2] = m.block.isSome ∧
    (m.flagBits withheld)[3] = m.tag.isSome ∧ (m.flagBits withheld)[4] = withheld ∧
    (m.flagBits withheld).toNat < 32 :=
  byte_of_five_flags ..

/-! ### The entries of tables, and where they stand -/

theorem State.linkData_slice (s : State) (i : Fin 8) : (s.linkData.drop (4 * i.val)).take 4 = s.linkBytes i := by
  have htable := slice_flatMap s.linkBytes s.linkBytes_length (List.finRange 8) (i := i.val) (by simp)
  rw [State.linkData, slice_append_left _ _ (by simp; omega), htable, List.getElem_finRange]
  rfl

theorem State.trackData_slice (s : State) (p : Port) (k : Fin 32) : ((s.trackData p).drop (6 * k.val)).take 6 =
    s.trackBytes (s.countsWithheld (s.settings.guarded.access.get p)) k := by
  have htable := fun hidden =>
    slice_flatMap (s.trackBytes hidden) (s.trackBytes_length hidden) (List.finRange 32) (i := k.val) (by simp)
  rw [State.trackData, List.append_assoc, slice_append_left _ _ (by simp; omega), htable, List.getElem_finRange]
  rfl

/-- The six bytes of a Track number in READ_TRACKS, whose Clip count goes out as 0 where it is hidden (R56, R58). -/
theorem State.trackData_track (s : State) (p : Port) (k : Fin 32) :
    fieldAt (s.trackData p) (6 * k.val) 2 = s.settings.general.gain[k] % 65536 ∧
    fieldAt (s.trackData p) (6 * k.val + 2) 2 = gainOrNone s.changes.gain[k] % 65536 ∧
    fieldAt (s.trackData p) (6 * k.val + 4) 2 =
      (if s.countsWithheld (s.settings.guarded.access.get p) then 0 else s.tracks.clips[k]) % 65536 := by
  have htrack := s.trackData_slice p k
  refine ⟨(fieldAt_of_slice htrack 0 rfl (by decide)).trans ?_, (fieldAt_of_slice htrack 2 rfl (by decide)).trans ?_,
    (fieldAt_of_slice htrack 4 rfl (by decide)).trans ?_⟩
  all_goals simp [State.trackBytes, fieldAt_append_right, fieldAt_le]

theorem State.trackData_last (s : State) (p : Port) :
    (s.trackData p).drop 193 = lastBytes (s.settings.guarded.access.get p) s.tracks.last := by
  rw [State.trackData, List.drop_left' (by simp)]

/-- The last-block record tells its period, class and number of Tracks on every port (R58). -/
theorem lastBytes_some (access : Access) (l : LastBlock) : lastBytes access (some l) =
    le 4 l.period ++ [classCode l.cls, byte l.entries.length] ++
      if l.cls = .restricted ∧ access = .denied then
        [0xFF, 1] ++ entryBytes (l.entries.map TrackEntry.withheld)
      else [trackOrNone l.holder, 0] ++ entryBytes l.entries := by
  simp only [lastBytes, LastBlock.isWithheld, decide_eq_true_eq]
  split <;> simp

theorem State.holdData_slice (s : State) (p : Port) (e : Fin 8) :
    ((s.holdData p).drop (8 + 10 * e.val)).take 10 = holdBytes s.ring.holds[e] := by
  have htable := slice_flatMap holdBytes holdBytes_length s.ring.holds.toList (i := e.val) (by simp)
  rw [State.holdData, ← List.drop_drop, List.drop_left' (by simp), htable, Vector.getElem_toList]
  rfl

theorem Plan.bytes_slice (p : Plan) (e : Fin 16) :
    (p.bytes.drop (2 + 3 * e.val)).take 3 = groupBytes p.entries[e] := by
  have htable := slice_flatMap groupBytes groupBytes_length p.entries.toList (i := e.val) (by simp)
  rw [Plan.bytes, ← List.drop_drop, List.drop_left' (by rfl), htable, Vector.getElem_toList]
  rfl

theorem State.planData_pending (s : State) : (s.planData.drop 0).take 50 = s.plans.pendingPlan.bytes := by
  simp [State.planData]

theorem State.planData_active (s : State) : (s.planData.drop 53).take 50 = s.settings.general.plan.bytes := by
  simp [State.planData, List.drop_append, List.take_append]

theorem entryBytes_slice {es : List TrackEntry} {k : Nat} {e : TrackEntry} (hk : k < 32) (he : es[k]? = some e) :
    ((entryBytes es).drop (6 * k)).take 6 = e.bytes := by
  obtain ⟨hlen, rfl⟩ := List.getElem?_eq_some_iff.1 he
  rw [entryBytes, slice_padTo (by omega) (by simp; omega), slice_flatMap _ TrackEntry.bytes_length es hlen]

/-! ### What is withheld (R58, R139, R145) -/

theorem State.countsWithheld_iff (s : State) (access : Access) : s.countsWithheld access = true ↔
    access = .denied ∧ (s.tracks.restrictedClip = true ∨
      (s.proc.state ≠ .closed ∧ s.proc.restricted = true ∧ s.proc.verify = false)) := by
  simp [State.countsWithheld, State.restrictedInProgress, s.sessionOpen_iff]

theorem Block.isWithheld_iff (b : Block) (access : Access) :
    b.isWithheld access = true ↔ b.cls = .restricted ∧ access = .denied := decide_eq_true_iff

theorem Mark.isWithheld_iff (m : Mark) (access : Access) :
    m.isWithheld access = true ↔ m.restricted = true ∧ access = .denied := by
  simp [Mark.isWithheld]

/-- Of a Block's header only the holder and the track entries depend on who reads it. -/
@[simp] theorem Block.seenBy_kept (b : Block) (access : Access) : (b.seenBy access).kind = b.kind ∧
    (b.seenBy access).cls = b.cls ∧ (b.seenBy access).width = b.width ∧
    (b.seenBy access).trackCount = b.trackCount ∧ (b.seenBy access).sequence = b.sequence ∧
    (b.seenBy access).session = b.session ∧ (b.seenBy access).generation = b.generation ∧
    (b.seenBy access).time = b.time ∧ (b.seenBy access).covered = b.covered ∧
    (b.seenBy access).bodyLength = b.bodyLength ∧ (b.seenBy access).spanEnd = b.spanEnd := by
  unfold Block.seenBy
  split <;> exact ⟨rfl, rfl, rfl, rfl, rfl, rfl, rfl, rfl, rfl, rfl, rfl⟩

theorem Block.bytes_header (b : Block) (access : Access) :
    b.bytes access false = (b.seenBy access).header (b.isWithheld access) := List.append_nil _

theorem Block.bytes_body (b : Block) (access : Access) :
    (b.bytes access true).drop 256 = (b.seenBy access).bodyBytes :=
  List.drop_left' (Block.header_length ..)

/-! ### The layouts (Tables 12.3, 12.4, 12.5 and 12.7) -/

/-- STATUS (R178, Table 12.7). -/
theorem State.statusData_layout (s : State) (p : Port) :
    let d := s.statusData p
    let r := s.readers.get p
    d.getD 0 0 = stateCode s.proc.state ∧ d.getD 1 0 = targetCode s.proc.target ∧
    fieldAt d 2 2 = s.proc.session % 65536 ∧ d.getD 4 0 = flagByte s.proc.verify ∧
    fieldAt d 5 6 = s.proc.clock % 2 ^ 48 ∧ fieldAt d 11 4 = s.proc.periods % 2 ^ 32 ∧
    fieldAt d 15 5 = s.ring.next % 2 ^ 40 ∧ fieldAt d 20 2 = s.ring.blocks.length % 65536 ∧
    fieldAt d 22 4 = (match s.ring.gap with | none => 0 | some g => g.count % 2 ^ 32) ∧
    fieldAt d 26 2 = s.marks.marks.length % 65536 ∧ fieldAt d 28 6 = s.marks.next % 2 ^ 48 ∧
    fieldAt d 34 4 = s.marks.lost % 2 ^ 32 ∧ d.getD 38 0 = flagByte s.store.isSome ∧
    d.getD 39 0 = guardCode s.settings.guarded.mode ∧ d.getD 40 0 = clockSourceCode s.sourceInUse ∧
    d.getD 41 0 = readerStateCode r.state ∧ d.getD 42 0 = retentionCode r.retention ∧
    fieldAt d 43 5 = r.read % 2 ^ 40 ∧ fieldAt d 48 5 = r.release % 2 ^ 40 ∧
    fieldAt d 53 6 = r.mark % 2 ^ 48 ∧
    (d.getD 59 0).getLsbD 0 = r.flags.avail ∧ (d.getD 59 0).getLsbD 1 = r.flags.empty ∧
    (d.getD 59 0).getLsbD 2 = r.flags.half ∧ (d.getD 59 0).getLsbD 3 = r.flags.lagWarn ∧
    (d.getD 59 0).getLsbD 4 = r.flags.atFloor ∧ (d.getD 59 0).toNat < 32 ∧
    fieldAt d 60 4 = r.skipped % 2 ^ 32 ∧ fieldAt d 64 4 = r.missed % 2 ^ 32 ∧
    d.getD 68 0 = flagByte (decide (r.pair = .complete)) ∧
    fieldAt d 69 2 = r.availLevel % 65536 ∧ fieldAt d 71 2 = r.lagLevel % 65536 := by
  cases hgap : s.ring.gap <;>
  simp [State.statusData, Reader.statusBytes, Ring.gapCount, Reader.pairComplete, hgap, fieldAt_append_right,
    fieldAt_le]

/-- READ_EVENTS (R183, R202). -/
theorem State.eventData_layout (s : State) (p : Port) :
    let d := s.eventData p
    fieldAt d 0 2 = (s.events.get p).flags.toNat ∧ fieldAt d 2 2 = (s.events.get p).mask.toNat ∧
    d.getD 4 0 = flagByte (s.attention p) ∧
    d.getD 5 0 = flagByte (decide ((s.readers.get p).pair = .complete)) := by
  simp [State.eventData, Reader.pairComplete, fieldAt_append_right, fieldAt_le]

/-- READ_LINKS (R14, R202). -/
theorem State.linkData_layout (s : State) :
    let d := s.linkData
    (∀ i : Fin 8, d.getD (4 * i.val) 0 = linkStateCode s.links[i].state ∧
      d.getD (4 * i.val + 1) 0 = flagByte s.settings.general.linkEnable[i] ∧
      fieldAt d (4 * i.val + 2) 2 = s.links[i].badFrames % 65536) ∧
    d.getD 32 0 = clockSourceCode s.settings.general.source ∧ d.getD 33 0 = clockSourceCode s.sourceInUse ∧
    d.getD 34 0 = (match s.changes.source with | none => 0xFF | some x => clockSourceCode x) := by
  refine ⟨fun i => ?_, rfl, rfl, ?_⟩
  · have hlink := s.linkData_slice i
    refine ⟨getD_of_slice hlink 0 rfl rfl, getD_of_slice hlink 1 rfl rfl,
      (fieldAt_of_slice hlink 2 rfl (by decide)).trans ?_⟩
    simp [State.linkBytes]
  · cases hsource : s.changes.source <;> simp [State.linkData, sourceOrNone, hsource]

/-- READ_PLAN (R31, R202). -/
theorem State.planData_layout (s : State) :
    let d := s.planData
    let holds := fun (at' : Nat) (plan : Plan) =>
      d.getD at' 0 = (match plan.width with | .w16 => 16 | .w24 => 24) ∧
      d.getD (at' + 1) 0 = BitVec.ofNat 8 plan.total ∧
      ∀ e : Fin 16, (d.drop (at' + 2 + 3 * e.val)).take 3 = match plan.entries[e] with
        | none => [0, 0, 0]
        | some g => [modeCode g.mode, BitVec.ofNat 8 g.first, BitVec.ofNat 8 g.count]
    holds 0 s.plans.pendingPlan ∧ fieldAt d 50 2 = s.plans.editCount.toNat ∧
    d.getD 52 0 = portOrNone s.plans.lastEditor ∧ holds 53 s.settings.general.plan ∧
    fieldAt d 103 2 = s.plans.generation.toNat ∧
    d.getD 105 0 = BitVec.ofNat 8 s.settings.general.plan.trackCount ∧
    fieldAt d 106 2 = s.settings.general.plan.bodyLength % 65536 ∧
    d.getD 108 0 = flagByte s.plans.armed.isSome := by
  intro d holds
  have hplan : ∀ {at' plan}, (d.drop at').take 50 = plan.bytes → holds at' plan := by
    intro at' plan h
    refine ⟨getD_of_slice h 0 rfl ?_, getD_of_slice h 1 rfl rfl, fun e => ?_⟩
    · rw [Plan.bytes]
      cases plan.width <;> rfl
    · rw [Nat.add_assoc, slice_of_slice h (by omega), plan.bytes_slice e]
      cases plan.entries[e] <;> rfl
  refine ⟨hplan s.planData_pending, ?_, ?_, hplan s.planData_active, ?_⟩
  all_goals simp [d, State.planData, byte, fieldAt_append_right, fieldAt_le]

/-- READ_TRACKS (R56, R58, R202). -/
theorem State.trackData_layout (s : State) (p : Port) :
    let d := s.trackData p
    let denied := s.settings.guarded.access.get p = .denied
    let hidden := denied ∧ (s.tracks.restrictedClip = true ∨
      (s.proc.state ≠ .closed ∧ s.proc.restricted = true ∧ s.proc.verify = false))
    (∀ k : Fin 32, fieldAt d (6 * k.val) 2 = s.settings.general.gain[k] % 65536 ∧
      fieldAt d (6 * k.val + 2) 2 = (match s.changes.gain[k] with | none => 65535 | some v => v % 65536) ∧
      (hidden → fieldAt d (6 * k.val + 4) 2 = 0) ∧
      (¬hidden → fieldAt d (6 * k.val + 4) 2 = s.tracks.clips[k] % 65536)) ∧
    (d.getD 192 0 = 1 ↔ hidden) ∧ (d.getD 192 0 = 0 ↔ ¬hidden) ∧
    (s.tracks.last = none → d.getD 197 0 = 0xFF ∧ d.getD 198 0 = 0 ∧ d.getD 199 0 = 0xFF ∧
      d.drop 200 = List.replicate 193 0) ∧
    ∀ l, s.tracks.last = some l →
      let withheld := l.cls = .restricted ∧ denied
      fieldAt d 193 4 = l.period % 2 ^ 32 ∧ d.getD 197 0 = classCode l.cls ∧
      d.getD 198 0 = BitVec.ofNat 8 l.entries.length ∧
      (withheld → d.getD 199 0 = 0xFF ∧ d.getD 200 0 = 1 ∧
        d.drop 201 = entryBytes (l.entries.map fun e => ⟨e.source, .quiet, 0, 0⟩)) ∧
      (¬withheld → d.getD 199 0 = trackOrNone l.holder ∧ d.getD 200 0 = 0 ∧
        d.drop 201 = entryBytes l.entries) := by
  intro d denied hidden
  have hhidden : s.countsWithheld (s.settings.guarded.access.get p) = true ↔ hidden := s.countsWithheld_iff _
  have hdrop : ∀ k, d.drop (193 + k) = (lastBytes (s.settings.guarded.access.get p) s.tracks.last).drop k := by
    intro k
    rw [← List.drop_drop, s.trackData_last p]
  have hlast : (d.drop 193).take 200 = lastBytes (s.settings.guarded.access.get p) s.tracks.last := by
    rw [s.trackData_last p, List.take_of_length_le (by simp)]
  refine ⟨fun k => ?_, ?_, ?_, fun hnone => ?_, fun l hl => ?_⟩
  · obtain ⟨hgain, hpending, hclips⟩ := s.trackData_track p k
    refine ⟨hgain, hpending.trans ?_, fun h => hclips.trans ?_, fun h => hclips.trans ?_⟩
    · cases s.changes.gain[k] <;> rfl
    · rw [if_pos (hhidden.2 h)]
    · rw [if_neg (mt hhidden.1 h)]
  · simp [← hhidden, d, State.trackData, flagByte]
  · simp [← hhidden, d, State.trackData, flagByte]
  · rw [hnone] at hdrop hlast
    exact ⟨getD_of_slice hlast 4 rfl rfl, getD_of_slice hlast 5 rfl rfl, getD_of_slice hlast 6 rfl rfl, hdrop 7⟩
  · rw [hl, lastBytes_some] at hdrop hlast
    refine ⟨(fieldAt_of_slice hlast 0 rfl (by decide)).trans ?_, getD_of_slice hlast 4 rfl rfl,
      getD_of_slice hlast 5 rfl rfl, fun hw => ?_, fun hw => ?_⟩
    · simp [fieldAt_le]
    · rw [if_pos hw] at hdrop hlast
      exact ⟨getD_of_slice hlast 6 rfl rfl, getD_of_slice hlast 7 rfl rfl, hdrop 8⟩
    · rw [if_neg hw] at hdrop hlast
      exact ⟨getD_of_slice hlast 6 rfl rfl, getD_of_slice hlast 7 rfl rfl, hdrop 8⟩

/-- READ_HOLDS (R120, R202). -/
theorem State.holdData_layout (s : State) (p : Port) :
    let d := s.holdData p
    d.getD 0 0 = entryOrNone (s.ring.lastPlaced.get p) ∧ fieldAt d 1 5 = s.ring.next % 2 ^ 40 ∧
    fieldAt d 6 2 = s.ring.blocks.length % 65536 ∧
    ∀ e : Fin 8, (s.ring.holds[e] = none → d.getD (8 + 10 * e.val) 0 = 0xFF) ∧
      ∀ h, s.ring.holds[e] = some h → d.getD (8 + 10 * e.val) 0 = portCode h.owner ∧
        d.getD (9 + 10 * e.val) 0 = retentionCode (some h.cls) ∧
        fieldAt d (10 + 10 * e.val) 4 = h.first % 2 ^ 32 ∧
        fieldAt d (14 + 10 * e.val) 4 = h.last % 2 ^ 32 := by
  refine ⟨rfl, ?_, ?_, fun e => ⟨fun hfree => ?_, fun h hheld => ?_⟩⟩
  · simp [State.holdData, fieldAt_le]
  · simp [State.holdData, fieldAt_append_right, fieldAt_le]
  · exact getD_of_slice (s.holdData_slice p e) 0 rfl (by rw [hfree]; rfl)
  · have hentry := s.holdData_slice p e
    rw [hheld] at hentry
    refine ⟨getD_of_slice hentry 0 rfl rfl, getD_of_slice hentry 1 (by omega) rfl,
      (fieldAt_of_slice hentry 2 (by omega) (by decide)).trans ?_,
      (fieldAt_of_slice hentry 6 (by omega) (by decide)).trans ?_⟩
    all_goals simp [holdBytes, fieldAt_append_right, fieldAt_le]

/-- A Block header, and the body after it (R139, R199, Table 12.3). -/
theorem Block.bytes_layout (b : Block) (x : Access) :
    let d := b.bytes x false
    let withheld := b.cls = .restricted ∧ x = .denied
    d.getD 0 0 = kindCode b.kind ∧ d.getD 1 0 = classCode b.cls ∧
    d.getD 2 0 = (match b.width with | .w16 => 16 | .w24 => 24) ∧
    d.getD 3 0 = BitVec.ofNat 8 b.trackCount ∧ fieldAt d 4 4 = b.sequence % 2 ^ 32 ∧
    fieldAt d 8 2 = b.session % 65536 ∧ fieldAt d 10 2 = b.generation.toNat ∧
    fieldAt d 12 6 = b.time % 2 ^ 48 ∧ fieldAt d 18 4 = b.covered % 2 ^ 32 ∧
    fieldAt d 22 2 = b.bodyLength % 65536 ∧ fieldAt d 26 6 = b.spanEnd % 2 ^ 48 ∧
    (d.drop 32).take 32 = List.replicate 32 0 ∧
    (withheld → d.getD 24 0 = 0xFF ∧ d.getD 25 0 = 1 ∧
      d.drop 64 = entryBytes (b.entries.map fun e => ⟨e.source, .quiet, 0, 0⟩)) ∧
    (¬withheld → d.getD 24 0 = trackOrNone b.holder ∧ d.getD 25 0 = 0 ∧ d.drop 64 = entryBytes b.entries) ∧
    (b.bytes x true).take 256 = d ∧
    (withheld → (b.bytes x true).drop 256 = List.replicate b.bodyLength 0) ∧
    (¬withheld → (b.bytes x true).drop 256 = padTo b.bodyLength (b.body.flatMap fun xs =>
      xs.flatMap fun v => leSigned (match b.width with | .w16 => 2 | .w24 => 3) v)) := by
  intro d withheld
  refine ⟨?_, ?_, ?width, ?_, ?_, ?_, ?_, ?_, ?_, ?_, ?_, ?_, fun hw => ?withheldHeader, fun hw => ?shownHeader,
    ?whole, fun hw => ?withheldBody, fun hw => ?shownBody⟩
  case width =>
    cases hwidth : b.width <;> simp [d, Block.bytes, Block.header, byte, widthBits, hwidth]
  case withheldHeader =>
    obtain ⟨hcls, rfl⟩ := hw
    change _ ∧ _ ∧ d.drop 64 = entryBytes (b.entries.map TrackEntry.withheld)
    simp [d, Block.bytes_withheld false hcls, Block.header, Block.withheldCopy, trackOrNone, flagByte,
      List.drop_append, -List.reduceReplicate]
  case shownHeader =>
    simp [d, Block.bytes_shown x false hw, Block.header, flagByte, List.drop_append, -List.reduceReplicate]
  case whole =>
    simp [d, Block.bytes]
  case withheldBody =>
    rw [b.bytes_body x, Block.seenBy, if_pos ((b.isWithheld_iff x).2 hw)]
    simp [Block.bodyBytes, Block.withheldCopy, padTo]
  case shownBody =>
    rw [b.bytes_body x, Block.seenBy, if_neg (mt (b.isWithheld_iff x).1 hw), Block.bodyBytes]
    cases b.width <;> rfl
  all_goals
    simp [d, Block.bytes_header, Block.header, byte, fieldAt_append_right, fieldAt_le, List.drop_append,
      -List.reduceReplicate]

/-- A track entry (R198, Table 12.4). -/
theorem entryBytes_layout (es : List TrackEntry) (k : Nat) (e : TrackEntry) (hk : k < 32) (he : es[k]? = some e) :
    let d := entryBytes es
    d.getD (6 * k) 0 = sourceCode e.source ∧ d.getD (6 * k + 1) 0 = activityCode e.activity ∧
    fieldAt d (6 * k + 2) 2 = e.clips % 65536 ∧ fieldAt d (6 * k + 4) 2 = e.peak % 65536 := by
  have hentry := entryBytes_slice hk he
  refine ⟨getD_of_slice hentry 0 rfl rfl, getD_of_slice hentry 1 rfl rfl,
    (fieldAt_of_slice hentry 2 rfl (by decide)).trans ?_, (fieldAt_of_slice hentry 4 rfl (by decide)).trans ?_⟩
  all_goals simp [TrackEntry.bytes, fieldAt_append_right, fieldAt_le]

/-- A Mark entry (R145, R200, Table 12.5). -/
theorem Mark.bytes_layout (m : Mark) (x : Access) :
    let d := m.bytes x
    let withheld := m.restricted = true ∧ x = .denied
    fieldAt d 0 6 = m.serial % 2 ^ 48 ∧ d.getD 6 0 = markKindCode m.kind ∧ d.getD 7 0 = partyCode m.origin ∧
    fieldAt d 8 6 = m.time % 2 ^ 48 ∧
    fieldAt d 14 4 = (match m.block with | none => 0 | some q => q % 2 ^ 32) ∧
    (¬withheld → fieldAt d 18 2 = m.arg.toNat ∧
      fieldAt d 20 4 = (match m.tag with | none => 0 | some t => t.toNat)) ∧
    (withheld → fieldAt d 18 6 = 0) ∧
    (d.getD 24 0).getLsbD 0 = m.restricted ∧ (d.getD 24 0).getLsbD 1 = m.clamped ∧
    (d.getD 24 0).getLsbD 2 = m.block.isSome ∧ (d.getD 24 0).getLsbD 3 = m.tag.isSome ∧
    ((d.getD 24 0).getLsbD 4 = true ↔ withheld) ∧ (d.getD 24 0).toNat < 32 ∧
    d.drop 25 = List.replicate 7 0 := by
  intro d withheld
  have hwithheld : m.isWithheld x = true ↔ withheld := m.isWithheld_iff x
  refine ⟨?_, ?_, ?_, ?_, ?block, fun hw => ?shown, fun hw => ?withheld, ?_⟩
  case block =>
    cases hblock : m.block <;> simp [d, Mark.bytes, hblock, fieldAt_append_right, fieldAt_le]
  case shown =>
    have hw := mt hwithheld.1 hw
    cases htag : m.tag <;> simp [d, Mark.bytes, hw, htag, fieldAt_append_right, fieldAt_le]
  case withheld =>
    have hzeros : (d.drop 18).take 6 = le 2 0 ++ le 4 0 := by
      simp [d, Mark.bytes, hwithheld.2 hw, List.drop_append, List.take_append]
    exact (fieldAt_of_slice hzeros 0 rfl (by decide)).trans rfl
  all_goals
    simp [d, Mark.bytes, hwithheld, fieldAt_append_right, fieldAt_le, List.drop_append]

/-- Settles O10: the lengths, and the layout of each response, header and entry. -/
theorem responseLayouts : Obligations.ResponseLayouts := by
  unfold Obligations.ResponseLayouts
  refine ⟨fun s p => ?_, fun b x => ?_, Mark.bytes_length, State.statusData_layout, State.eventData_layout,
    State.linkData_layout, State.planData_layout, State.trackData_layout, State.holdData_layout, Block.bytes_layout,
    entryBytes_layout, Mark.bytes_layout⟩
  · simp [State.statusData, Reader.statusBytes, State.eventData, State.linkData, State.planData, State.trackData,
      State.holdData]
  · simp [Block.bytes, Block.bodyBytes]

end Sys2Proof.Machine
end
